-- ==== Sys2Proof/Word.lean ====
section
/-! DEFINITION. The word and byte types of the PDU (00_scope.md R11; 10_state.md R20). -/

namespace Sys2Proof

/-- A control register: `XLEN` = 32 bits (10_state.md R20). -/
abbrev Word := BitVec 32

/-- The unit of every byte-addressed space (20_memory.md R60). -/
abbrev Byte := BitVec 8

end Sys2Proof
end

