-- ==== Sys2Proof/Config.lean ====
section
/-! DEFINITION. What an implementation fixes (the parameters of 00_scope.md R9 and of the table of open parameters of
92_eei_decisions.md) and the one value the spec leaves free: a byte of memory that nobody has written. -/

namespace Sys2Proof

/-- The byte spaces (20_memory.md R60) but for the control registers and the ROMs. -/
inductive Space where
  | input   -- `IN`
  | pal     -- `PAL`, three bytes to an entry
  | lb      -- `LB`
  | mb      -- `MB`
  | fb      -- `FB`
  deriving DecidableEq, Repr

/-- The named parameters: the capacities (R9, D4), the level a white run writes when `BLACK_IS_ZERO` is 0 (R141, D15)
and whether `MODE` = 2 is implemented (R6, D2). -/
structure Config where
  inSize    : Nat
  lbSize    : Nat
  mbSize    : Nat
  fbSize    : Nat
  whiteBase : Byte
  hasRle24  : Bool
  deriving DecidableEq, Repr

/-- The parameters at `State.reset`: capacities no legal operand exceeds, white = 0 (R141), RLE24 present (R6).
DESIGN CHOICE (log 4): the spec leaves the capacities open. -/
def Config.default : Config :=
  { inSize := 4294967295, lbSize := 2147483647, mbSize := 18446744073709551616, fbSize := 18446744073709551616,
    whiteBase := 0, hasRle24 := true }

/-- The constraint the spec puts on the parameters: `IN_SIZE < 2^32` (00_scope.md R9). -/
def Config.legal (c : Config) : Bool := decide (c.inSize < 4294967296)

/-- FREE VALUE (70_reset_and_hazards.md R552; log 7): what the PDU reads from the byte at an address of a space that neither
agent has written since the given reset. No body: no theorem can depend on the value. -/
opaque Config.unwrittenByte : Space → Nat → Nat → Byte

end Sys2Proof
end

