-- ==== Sys2Proof/Syntax.lean ====
section
/-! DEFINITION. The instructions of the PDU: one constructor per row of spec/opcode_table.json (30_encoding.md R90 to R103,
R122). An instruction is a command or a token of a stream (00_scope.md R19). -/

namespace Sys2Proof

/-- The colour of a run, a mode bit that selects the code tree (10_state.md R30, 30_encoding.md R94). -/
inductive Color where
  | white
  | black
  deriving DecidableEq, Repr

/-- The channel operand `CH` (10_state.md R22): 0 = R, 1 = G, 2 = B, 3 = A. -/
inductive Channel where
  | r
  | g
  | b
  | a
  deriving DecidableEq, Repr

/-- `RLE_CTRL.MODE` but for the reserved value 3 (10_state.md R31). -/
inductive RleMode where
  | rle8
  | rle4
  | rle24
  deriving DecidableEq, Repr

/-- Every instruction of the opcode table. The operands of a T.4 code word belong to the word (R94), so its constructor has
none. An RLE command carries its two head bytes' operands; its payload is fetched by its own rule (43_rle.md R427,
R430 to R433; log 16). -/
inductive Instr where
  -- host commands (30_encoding.md R92)
  | nop
  | g3Reset
  | g3Line
  | rleDecode
  | cmeNew (ch : Channel)
  | cmeExtract (ch : Channel)
  | cmeRgba
  | fxcDec
  | fxcEnc
  | icnUnpack1
  | icnMono
  | icnAlpha
  -- white terminal codes (R150)
  | wt0 | wt1 | wt2 | wt3 | wt4 | wt5 | wt6 | wt7
  | wt8 | wt9 | wt10 | wt11 | wt12 | wt13 | wt14 | wt15
  | wt16 | wt17 | wt18 | wt19 | wt20 | wt21 | wt22 | wt23
  | wt24 | wt25 | wt26 | wt27 | wt28 | wt29 | wt30 | wt31
  | wt32 | wt33 | wt34 | wt35 | wt36 | wt37 | wt38 | wt39
  | wt40 | wt41 | wt42 | wt43 | wt44 | wt45 | wt46 | wt47
  | wt48 | wt49 | wt50 | wt51 | wt52 | wt53 | wt54 | wt55
  | wt56 | wt57 | wt58 | wt59 | wt60 | wt61 | wt62 | wt63
  -- white make-up codes (R151)
  | wm64 | wm128 | wm192 | wm256 | wm320 | wm384 | wm448 | wm512
  | wm576 | wm640 | wm704 | wm768 | wm832 | wm896 | wm960 | wm1024
  | wm1088 | wm1152 | wm1216 | wm1280 | wm1344 | wm1408 | wm1472 | wm1536
  | wm1600 | wm1664 | wm1728
  -- black terminal codes (R152)
  | bt0 | bt1 | bt2 | bt3 | bt4 | bt5 | bt6 | bt7
  | bt8 | bt9 | bt10 | bt11 | bt12 | bt13 | bt14 | bt15
  | bt16 | bt17 | bt18 | bt19 | bt20 | bt21 | bt22 | bt23
  | bt24 | bt25 | bt26 | bt27 | bt28 | bt29 | bt30 | bt31
  | bt32 | bt33 | bt34 | bt35 | bt36 | bt37 | bt38 | bt39
  | bt40 | bt41 | bt42 | bt43 | bt44 | bt45 | bt46 | bt47
  | bt48 | bt49 | bt50 | bt51 | bt52 | bt53 | bt54 | bt55
  | bt56 | bt57 | bt58 | bt59 | bt60 | bt61 | bt62 | bt63
  -- black make-up codes (R153)
  | bm64 | bm128 | bm192 | bm256 | bm320 | bm384 | bm448 | bm512
  | bm576 | bm640 | bm704 | bm768 | bm832 | bm896 | bm960 | bm1024
  | bm1088 | bm1152 | bm1216 | bm1280 | bm1344 | bm1408 | bm1472 | bm1536
  | bm1600 | bm1664 | bm1728
  -- shared make-up codes (R154)
  | xm1792 | xm1856 | xm1920 | xm1984 | xm2048 | xm2112 | xm2176 | xm2240
  | xm2304 | xm2368 | xm2432 | xm2496 | xm2560
  -- end of line (R96)
  | eol
  -- RLE stream commands (30_encoding.md R100, 43_rle.md R425 to R433)
  | runRle8 (n v : Byte)
  | runRle4 (n v : Byte)
  | runRle24 (n b : Byte)
  | absRle8 (n : Byte)
  | absRle4 (n : Byte)
  | absRle24 (n : Byte)
  | rleEol
  | eob
  | delta
  deriving DecidableEq, Repr

end Sys2Proof
end

