-- ==== Sys2Proof/Machine/State.lean ====
section
/-! DEFINITION. The state of the PDU (10_state.md), the reasons a step can stop, and the state after reset
(70_reset_and_hazards.md R551, R552). -/

namespace Sys2Proof.Machine

/-- A byte-addressed space: (address, byte) pairs, addresses strictly rising. An unlisted address holds no value: nobody
has written it since reset (70_reset_and_hazards.md R552). -/
abbrev Memory := List Host.Cell

/-- `CODE`, how the last command ended (60_exceptions.md R521). The reserved codes are never produced. -/
inductive ResultCode where
  | ok
  | truncated
  | rowsDone
  | errIllegalCmd
  | errParam
  | errOddHeight
  | errUnsupported
  | errShortInput
  deriving DecidableEq, Repr

/-- The flag bits a command ends with; a flag its rule does not mention is 0 (10_state.md R23, R37). -/
structure ResultFlags where
  hasAlpha : Bool := false
  g3Early  : Bool := false
  g3Bad    : Bool := false
  icnNoop  : Bool := false
  deriving DecidableEq, Repr

/-- `PDU_STATUS` by fields (10_state.md R23); the reserved bits read 0. -/
structure Status where
  busy  : Bool
  done  : Bool
  code  : ResultCode
  flags : ResultFlags
  deriving DecidableEq, Repr

/-- One channel record `CM[c]` (10_state.md R32). -/
structure ColorMask where
  mask       : Word
  rightShift : BitVec 5
  scale      : Byte
  present    : Bool
  bits       : BitVec 6
  deriving DecidableEq, Repr

/-- `CM[0..3]`, in the order R, G, B, A (10_state.md R32). -/
structure ColorMasks where
  r : ColorMask
  g : ColorMask
  b : ColorMask
  a : ColorMask
  deriving DecidableEq, Repr

/-- The internal registers of a `G3.LINE` in progress (10_state.md R30): the colour, the run length accumulated so far, and
whether a make-up code of the current run has been read (the inner loop of 40_g3_huffman.md R140). -/
structure G3Run where
  color  : Color
  acc    : Nat
  midRun : Bool
  deriving DecidableEq, Repr

/-- Which command is in progress. Only the two commands that interpret a stream are ever seen in progress; the host sees
neither (20_memory.md R80; log 1). -/
inductive Running where
  | idle
  | g3 (r : G3Run)
  | rle
  deriving DecidableEq, Repr

/-- One access of the world outside the PDU (00_scope.md R10; 30_encoding.md R118). -/
inductive HostAction where
  /-- A 32-bit write at a byte offset of `CSR` (10_state.md R35, R36); at 0x000 it is a command. -/
  | wr (off : Nat) (v : Word)
  /-- A 32-bit read at a byte offset of `CSR`. -/
  | rd (off : Nat)
  /-- Writing one byte of `IN`, `LB`, `MB` or `FB` (20_memory.md R60). -/
  | load (sp : Space) (a : Nat) (b : Byte)
  /-- Writing one entry of `PAL` (20_memory.md R63). -/
  | loadPal (i r g b : Byte)
  /-- Reading one byte of `LB`, `MB` or `FB` (20_memory.md R60). -/
  | read (sp : Space) (a : Nat)
  /-- The external reset (70_reset_and_hazards.md R550), the one access that does not wait for the end of a command. -/
  | reset
  deriving DecidableEq, Repr

/-- The whole machine. -/
structure State where
  -- common registers (10_state.md R21)
  status   : Status
  inPos    : Word
  inLen    : Word
  imgW     : Word
  imgH     : Word
  palCount : Word
  -- G3 (R28)
  g3Width  : Word
  g3Ctrl   : Word
  g3Buf    : Word
  g3Bits   : BitVec 6
  g3X      : Word
  -- RLE (R31)
  rleCtrl  : Word
  rleX     : Word
  rleY     : Word
  -- CME (R32)
  cmeArg   : Word
  cmeRes   : Word
  cm       : ColorMasks
  -- FXC (R33)
  fxcMode  : Word
  fxcLo    : Word
  fxcHi    : Word
  fxcRgba  : Word
  -- ICN (R34)
  icnMw    : Word
  icnMh    : Word
  icnCtrl  : Word
  -- the memories (20_memory.md R60)
  inMem    : Memory
  pal      : Memory
  lb       : Memory
  mb       : Memory
  fb       : Memory
  -- internal registers of the command in progress (R30)
  run      : Running
  -- the model's own: the host's accesses still to come, the value its last read returned, the resets so far, the parameters
  host     : List HostAction
  hostData : Word
  resets   : Nat
  cfg      : Config
  deriving DecidableEq, Repr

/-- The faults: accesses of the host that the spec gives no place to, and a command without end, which it rules out. -/
inductive Fault where
  /-- Raised by `hostAccess` for a byte of a space at or beyond its capacity, or a byte access to `PAL`, whose unit is an
  entry (20_memory.md R60). Safe: the machine stops. -/
  | noSuchAddress (sp : Space) (a : Nat)
  /-- Raised by `hostAccess` for an offset that is no aligned word of `CSR` (20_memory.md R61). Safe: the machine stops. -/
  | noSuchRegister (off : Nat)
  /-- Raised by `hostAccess` for a read of `IN` or `PAL`, which only the PDU reads (20_memory.md R60). Safe: the machine
  stops. -/
  | notHostReadable (sp : Space)
  /-- Raised by `runTokens` if a command outlives the bound of 70_reset_and_hazards.md R562. Safe: it is never reached from
  a command's start, and it is a stop. -/
  | commandDidNotEnd
  deriving DecidableEq, Repr

/-- The refusals: what the spec says cannot occur. `step` answers none of them. -/
inductive Refusal where
  /-- Raised by `exec` for an instruction whose meaning is not written. Safe: the machine stops. -/
  | notModelled (mnemonic : String)
  /-- Raised by a command given while another runs (93_implementation_defined.md U12, treatment `refuse`). Safe: the machine
  stops. -/
  | busy
  /-- Raised by a stream token when no command of its engine is in progress: a token has a meaning only as the next item
  of the stream inside its command (40_g3_huffman.md R144; 43_rle.md R424). Safe: the machine stops. -/
  | outsideCommand
  /-- Raised by a code word of one tree while the other colour is selected, by `EOL` inside a run, and by an RLE command of
  another mode: none is recognised there (30_encoding.md R94, R100; 40_g3_huffman.md R147). Safe: the machine stops. -/
  | notRecognisedHere
  deriving DecidableEq, Repr

/-- An absent channel (10_state.md R42). -/
def ColorMask.absent : ColorMask := { mask := 0, rightShift := 0, scale := 0, present := false, bits := 0 }

/-- The machine right after reset (10_state.md R42; 70_reset_and_hazards.md R551, R552): every register 0, no byte of memory
with a known value. The last four fields are the model's own (log 2, 4, 8, 18). -/
def State.reset : State :=
  { status := { busy := false, done := false, code := .ok, flags := {} }
    inPos := 0, inLen := 0, imgW := 0, imgH := 0, palCount := 0
    g3Width := 0, g3Ctrl := 0, g3Buf := 0, g3Bits := 0, g3X := 0
    rleCtrl := 0, rleX := 0, rleY := 0
    cmeArg := 0, cmeRes := 0, cm := { r := .absent, g := .absent, b := .absent, a := .absent }
    fxcMode := 0, fxcLo := 0, fxcHi := 0, fxcRgba := 0
    icnMw := 0, icnMh := 0, icnCtrl := 0
    inMem := [], pal := [], lb := [], mb := [], fb := []
    run := .idle
    host := [], hostData := 0, resets := 0, cfg := .default }

end Sys2Proof.Machine
end

