-- ==== Sys2Proof/Machine/Ops.lean ====
section
/-! DEFINITION. The operations every engine shares: memory, the stream read `Fetch()`, ending a command (the PDU's whole
exception mechanism, 60_exceptions.md R520), frames, rows and the palette. -/

namespace Sys2Proof.Machine

/-! ## Memory -/

/-- The byte listed at an address, if any. -/
def Memory.read : Memory → Nat → Option Byte
  | [], _ => none
  | (k, b) :: m, a => if k = a then some b else Memory.read m a

/-- Writing one byte: the list stays strictly rising. -/
def Memory.write : Memory → Nat → Byte → Memory
  | [], a, b => [(a, b)]
  | (k, c) :: m, a, b =>
    if a < k then (a, b) :: (k, c) :: m
    else if a = k then (a, b) :: m
    else (k, c) :: Memory.write m a b

/-- The canonical form: addresses strictly rising. (An unlisted address reads as no value, so no entry can repeat it.) -/
abbrev Memory.wf (m : Memory) : Prop := m.Pairwise fun c d => c.1 < d.1

/-- `MemWrite(S, a, n, v)` (00_scope.md R14): bytes at rising addresses. -/
def Memory.writeBytes (m : Memory) (a : Nat) : List Byte → Memory
  | [] => m
  | b :: bs => Memory.writeBytes (m.write a b) (a + 1) bs

/-- Doing `f 0`, `f 1`, … `f (n-1)` in that order. -/
def forUpTo {α : Type} : Nat → (Nat → α → α) → α → α
  | 0, _, x => x
  | n + 1, f, x => f n (forUpTo n f x)

/-- The contents of a space. -/
def State.memOf (s : State) : Space → Memory
  | .input => s.inMem
  | .pal => s.pal
  | .lb => s.lb
  | .mb => s.mb
  | .fb => s.fb

/-- The state with other contents of a space. -/
def State.withMem (s : State) (sp : Space) (m : Memory) : State :=
  match sp with
  | .input => { s with inMem := m }
  | .pal => { s with pal := m }
  | .lb => { s with lb := m }
  | .mb => { s with mb := m }
  | .fb => { s with fb := m }

/-- Reading one byte: the last value written by either agent (20_memory.md R78), or, where neither has written since reset,
the free value (70_reset_and_hazards.md R552; log 7). -/
def State.byteAt (s : State) (sp : Space) (a : Nat) : Byte :=
  ((s.memOf sp).read a).getD (Config.unwrittenByte sp a s.resets)

/-! ## The stream -/

/-- `Fetch()` (20_memory.md R65): the byte at `IN_POS`, which advances; none at the end of the stream. -/
def fetchByte (s : State) : Option (Byte × State) :=
  if s.inPos = s.inLen then none
  else some (s.byteAt .input s.inPos.toNat, { s with inPos := s.inPos + 1 })

/-- The bits of the stream not yet consumed, those waiting in the G3 buffer included (70_reset_and_hazards.md R562). -/
def bitsLeft (s : State) : Nat := 8 * (s.inLen.toNat - s.inPos.toNat) + s.g3Bits.toNat

/-! ## Starting and ending a command -/

/-- A command in progress shows `BUSY` (10_state.md R23). -/
def beginCommand (r : Running) (s : State) : State := { s with run := r, status := { s.status with busy := true } }

/-- `halt(CODE)` (00_scope.md R15; 60_exceptions.md R520): `CODE` and the flags are written, `DONE` set, `BUSY` cleared; every
other piece of state stays. -/
def halt (c : ResultCode) (f : ResultFlags) (s : State) : State :=
  { s with run := .idle, status := { busy := false, done := true, code := c, flags := f } }

/-- `raise <Name>` (00_scope.md R15; 60_exceptions.md R522 to R526, R530): the command ends with an error code and all flags 0.
Nothing is saved and no control is transferred. -/
def raise (c : ResultCode) (s : State) : State := halt c {} s

/-- A command runs only when none is in progress (20_memory.md R80; 93_implementation_defined.md U12). -/
def whenIdle (s : State) (k : State → State) : Host.Outcome State Fault Refusal :=
  match s.run with
  | .idle => .next (k s)
  | .g3 _ => .refused .busy
  | .rle => .refused .busy

/-! ## Frames (20_memory.md R66, R67, R70 to R72) -/

/-- A pixel of a frame. -/
structure Pixel where
  r : Byte
  g : Byte
  b : Byte
  a : Byte
  deriving DecidableEq, Repr

/-- The four channel bytes, R first (R67, R71). -/
def Pixel.bytes (p : Pixel) : List Byte := [p.r, p.g, p.b, p.a]

/-- `addr(x, r)` in a frame of width `w` (R67). -/
def pixelAddr (w x r : Nat) : Nat := (r * w + x) * 4

/-- Writing one pixel at an address (R74, R515). -/
def Memory.writePixel (m : Memory) (a : Nat) (p : Pixel) : Memory := m.writeBytes a p.bytes

/-- `dest_y(y)` for an image of `h` rows (R72). -/
def destY (bottomUp : Bool) (h y : Nat) : Nat := if bottomUp then h - 1 - y else y

/-- Writing the same pixel into the first `n` pixels of a frame (43_rle.md R421). -/
def Memory.fillPixels (m : Memory) (n : Nat) (p : Pixel) : Memory :=
  forUpTo n (fun k m' => m'.writePixel (4 * k) p) m

/-! ## The palette (43_rle.md R422) -/

/-- Opaque black. -/
def opaqueBlack : Pixel := { r := 0, g := 0, b := 0, a := 255 }

/-- Where the colour byte `c` (0 = r, 1 = g, 2 = b) of palette entry `i` is kept. -/
def palAddr (i c : Nat) : Nat := 3 * i + c

/-- `pal(i)`: an opaque palette colour, opaque black at or beyond `PAL_COUNT` (R422). -/
def palette (s : State) (i : Byte) : Pixel :=
  if i.toNat < s.palCount.toNat then
    { r := s.byteAt .pal (palAddr i.toNat 0), g := s.byteAt .pal (palAddr i.toNat 1),
      b := s.byteAt .pal (palAddr i.toNat 2), a := 255 }
  else opaqueBlack

end Sys2Proof.Machine
end

