-- ==== Sys2Proof/Machine/Flags.lean ====
section
/-! DEFINITION. `PDU_STATUS` as a word and the flag results of the commands (10_state.md R23, R37; 60_exceptions.md R521). -/

namespace Sys2Proof.Machine

/-- The number of a result code (60_exceptions.md R521). -/
def ResultCode.number : ResultCode → Nat
  | .ok => 0
  | .truncated => 1
  | .rowsDone => 2
  | .errIllegalCmd => 8
  | .errParam => 9
  | .errOddHeight => 10
  | .errUnsupported => 11
  | .errShortInput => 12

/-- Codes 8 and above are errors: bit 3 of `CODE` (60_exceptions.md R521). -/
def ResultCode.isError (c : ResultCode) : Bool := decide (8 ≤ c.number)

/-- `PDU_STATUS` as the host reads it (10_state.md R23): [0] BUSY, [1] DONE, [7:4] CODE, [8] HAS_ALPHA, [9] G3_EARLY,
[10] G3_BAD, [11] ICN_NOOP, the rest 0. -/
def Status.word (t : Status) : Word :=
  BitVec.ofNat 32 (t.busy.toNat + 2 * t.done.toNat + 16 * t.code.number + 256 * t.flags.hasAlpha.toNat +
    512 * t.flags.g3Early.toNat + 1024 * t.flags.g3Bad.toNat + 2048 * t.flags.icnNoop.toNat)

/-- Only `HAS_ALPHA` is set (10_state.md R37). -/
def alphaFlags (b : Bool) : ResultFlags := { hasAlpha := b }

/-- The line was ended by an EOL (40_g3_huffman.md R147, R156). -/
def earlyFlags : ResultFlags := { g3Early := true }

/-- The line met an unrecognised code (40_g3_huffman.md R148, R156). -/
def badFlags : ResultFlags := { g3Bad := true }

/-- `ICN.ALPHA` found a size mismatch (46_icon_mask.md R504). -/
def noopFlags : ResultFlags := { hasAlpha := true, icnNoop := true }

end Sys2Proof.Machine
end

