-- ==== Sys2Proof/Machine/Operands.lean ====
section
/-! DEFINITION. The fields of the operand registers (10_state.md R28, R31 to R34) and the parameter tests of every command
(60_exceptions.md R523, R527). -/

namespace Sys2Proof.Machine

/-! ## Control fields -/

/-- `G3_CTRL.BLACK_IS_ZERO` (10_state.md R28). -/
def State.blackIsZero (s : State) : Bool := s.g3Ctrl.getLsbD 0

/-- `RLE_CTRL.MODE` (10_state.md R31): 3 is reserved, and 2 is too where RLE24 is not implemented
(93_implementation_defined.md U11). -/
def State.rleMode (s : State) : Option RleMode :=
  if s.rleCtrl.extractLsb' 0 2 = 0#2 then some .rle8
  else if s.rleCtrl.extractLsb' 0 2 = 1#2 then some .rle4
  else if s.rleCtrl.extractLsb' 0 2 = 2#2 ∧ s.cfg.hasRle24 = true then some .rle24
  else none

/-- `RLE_CTRL.BOTTOM_UP` (10_state.md R31). -/
def State.rleBottomUp (s : State) : Bool := s.rleCtrl.getLsbD 2

/-- `RLE_CTRL.LEAVE` (10_state.md R31). -/
def State.rleLeave (s : State) : Bool := s.rleCtrl.getLsbD 3

/-- `ICN_CTRL.BOTTOM_UP` (10_state.md R34). -/
def State.icnBottomUp (s : State) : Bool := s.icnCtrl.getLsbD 0

/-- The conversion modes of `FXC_MODE[1:0]` (10_state.md R33). -/
inductive FxcMode where
  | toSrgb
  | linear
  | none
  | reserved
  deriving DecidableEq, Repr

/-- `FXC_MODE[1:0]` (10_state.md R33). -/
def State.fxcModeField (s : State) : FxcMode :=
  if s.fxcMode.extractLsb' 0 2 = 0#2 then .toSrgb
  else if s.fxcMode.extractLsb' 0 2 = 1#2 then .linear
  else if s.fxcMode.extractLsb' 0 2 = 2#2 then .none
  else .reserved

/-- `CM[c]` (10_state.md R32). -/
def ColorMasks.get (m : ColorMasks) : Channel → ColorMask
  | .r => m.r
  | .g => m.g
  | .b => m.b
  | .a => m.a

/-- `CM[c] <- v` (10_state.md R32). -/
def ColorMasks.set (m : ColorMasks) (c : Channel) (v : ColorMask) : ColorMasks :=
  match c with
  | .r => { m with r := v }
  | .g => { m with g := v }
  | .b => { m with b := v }
  | .a => { m with a := v }

/-- A frame pixel as a word: R = [7:0], G = [15:8], B = [23:16], A = [31:24] (30_encoding.md R104). -/
def Pixel.word (p : Pixel) : Word := p.a ++ p.b ++ p.g ++ p.r

/-- The pixel a word holds in that packing (30_encoding.md R104). -/
def pixelOfWord (w : Word) : Pixel :=
  { r := w.extractLsb' 0 8, g := w.extractLsb' 8 8, b := w.extractLsb' 16 8, a := w.extractLsb' 24 8 }

/-! ## Parameter tests (60_exceptions.md R523) -/

/-- The largest dimension, 2^31 - 1 (10_state.md R26). -/
def maxDim : Nat := 2147483647

/-- The stream test: `IN_POS <= IN_LEN <= IN_SIZE`. -/
def streamOk (s : State) : Bool :=
  decide (s.inPos.toNat ≤ s.inLen.toNat) && decide (s.inLen.toNat ≤ s.cfg.inSize)

/-- A legal dimension: 1 to 2^31 - 1. -/
def dimOk (d : Word) : Bool := decide (1 ≤ d.toNat) && decide (d.toNat ≤ maxDim)

/-- A frame of `w` by `h` pixels fits a capacity. -/
def frameFits (w h size : Nat) : Bool := decide (4 * w * h ≤ size)

/-- The tests of `G3.LINE`. -/
def g3ParamsOk (s : State) : Bool :=
  (s.g3Ctrl.extractLsb' 1 31 == 0#31) && decide (s.g3Width.toNat ≤ min maxDim s.cfg.lbSize) && streamOk s

/-- The tests of `RLE.DECODE`. -/
def rleParamsOk (s : State) : Bool :=
  (s.rleCtrl.extractLsb' 4 28 == 0#28) && s.rleMode.isSome && dimOk s.imgW && dimOk s.imgH &&
    decide (s.palCount.toNat ≤ 256) && frameFits s.imgW.toNat s.imgH.toNat s.cfg.fbSize && streamOk s

/-- The tests of `FXC.DEC` and `FXC.ENC`. -/
def fxcParamsOk (s : State) : Bool := (s.fxcMode.extractLsb' 2 30 == 0#30) && decide (s.fxcModeField ≠ .reserved)

/-- The bounds on the stacked mask image. -/
def maskImageOk (s : State) : Bool :=
  dimOk s.icnMw && dimOk s.icnMh && frameFits s.icnMw.toNat s.icnMh.toNat s.cfg.mbSize

/-- The tests of `ICN.UNPACK1`. -/
def unpackParamsOk (s : State) : Bool :=
  (s.icnCtrl.extractLsb' 1 31 == 0#31) && maskImageOk s && decide (s.palCount.toNat ≤ 256) && streamOk s

/-- The tests of `ICN.MONO`. -/
def monoParamsOk (s : State) : Bool :=
  maskImageOk s && frameFits s.icnMw.toNat (s.icnMh.toNat / 2) s.cfg.fbSize

/-- The tests of `ICN.ALPHA`. -/
def alphaParamsOk (s : State) : Bool :=
  maskImageOk s && dimOk s.imgW && dimOk s.imgH && frameFits s.imgW.toNat s.imgH.toNat s.cfg.fbSize

end Sys2Proof.Machine
end

