-- ==== Sys2Proof/Machine/Cme.lean ====
section
/-! DEFINITION. The colour-mask engine (44_color_mask.md R450 to R457). -/

namespace Sys2Proof.Machine

/-- The index of the lowest set bit of a non-zero word, searched from bit `k` on for `n` bits (00_scope.md R11, `ctz`). -/
def lowestSetBit (m : Word) : Nat → Nat → Nat
  | 0, k => k
  | n + 1, k => if m.getLsbD k then k else lowestSetBit m n (k + 1)

/-- `ctz(v)` for v ≠ 0 (00_scope.md R11). -/
def ctz (m : Word) : Nat := lowestSetBit m 32 0

/-- The number of set bits among the low `n` (00_scope.md R11, `popcount`). -/
def countBits (m : Word) : Nat → Nat
  | 0 => 0
  | n + 1 => countBits m n + (m.getLsbD n).toNat

/-- `popcount(v)` (00_scope.md R11). -/
def popcount (m : Word) : Nat := countBits m 32

/-- `scale` for a field of `bits` bits (R451). -/
def scaleOf (bits : Nat) : Nat := if bits < 8 then 256 >>> bits else 1

/-- `ColorMask::new(mask)` (R451). -/
def colorMask (m : Word) : ColorMask :=
  if m = 0 then .absent
  else
    { mask := m
      rightShift := BitVec.ofNat 5 (ctz m)
      scale := BitVec.ofNat 8 (scaleOf (popcount (m >>> ctz m)))
      present := true
      bits := BitVec.ofNat 6 (popcount (m >>> ctz m)) }

/-- The masked field of a pixel, as a number (R452, R454). -/
def maskedField (c : ColorMask) (p : Word) : Nat := ((p &&& c.mask) >>> c.rightShift.toNat).toNat

/-- `extract(pixel)` as a number (R452). -/
def extractNat (c : ColorMask) (p : Word) : Nat :=
  if c.present then min (min (maskedField c p) 255 * c.scale.toNat) 255 else 255

/-- `extract(pixel)` (R452). -/
def extract (c : ColorMask) (p : Word) : Byte := BitVec.ofNat 8 (extractNat c p)

/-- The four channels of a pixel (R453). -/
def extractPixel (m : ColorMasks) (p : Word) : Pixel :=
  { r := extract m.r p, g := extract m.g p, b := extract m.b p, a := extract m.a p }

/-- `CME.NEW ch` (R451). -/
def execCmeNew (ch : Channel) (s : State) : Host.Outcome State Fault Refusal :=
  whenIdle s fun t => halt .ok {} { t with cm := t.cm.set ch (colorMask t.cmeArg) }

/-- `CME.EXTRACT ch` (R452). -/
def execCmeExtract (ch : Channel) (s : State) : Host.Outcome State Fault Refusal :=
  whenIdle s fun t => halt .ok {} { t with cmeRes := (extract (t.cm.get ch) t.cmeArg).setWidth 32 }

/-- `CME.RGBA` (R453). -/
def execCmeRgba (s : State) : Host.Outcome State Fault Refusal :=
  whenIdle s fun t => halt .ok (alphaFlags t.cm.a.present) { t with cmeRes := (extractPixel t.cm t.cmeArg).word }

end Sys2Proof.Machine
end

