-- ==== Sys2Proof/Machine/Fxc.lean ====
section
/-! DEFINITION. The s2.13 converter (45_s213_converter.md R470 to R488), over exact integers (R481). -/

namespace Sys2Proof.Machine

/-! ## Decode direction -/

/-- A channel clamped to [0, 8192], in 8192ths: negative words are 0 (R471, R480). -/
def clampS213 (v : BitVec 16) : Nat := min (v.toInt.toNat) 8192

/-- The comparison of R476: `srgb8 >= k` for s on the power segment. -/
def srgbAtLeast (s k : Nat) : Bool :=
  decide (Nat.mul (Nat.pow (1000 * k + 13525) 12) (Nat.pow 8192 5) ≤ Nat.mul (Nat.pow s 5) (Nat.pow 269025 12))

/-- The largest k up to the bound with `srgb8 >= k` (R476). -/
def srgbSearch (s : Nat) : Nat → Nat
  | 0 => 0
  | k + 1 => if srgbAtLeast s (k + 1) then k + 1 else srgbSearch s k

/-- `srgb8` of a clamped channel (R476). -/
def srgb8Nat (s : Nat) : Nat :=
  if s = 0 then 0
  else if 8192 ≤ s then 255
  else if s ≤ 25 then (32946 * s + 40960) / 81920
  else srgbSearch s 255

/-- `lin8` of a clamped channel (R477). -/
def lin8Nat (s : Nat) : Nat :=
  if s = 0 then 0
  else if 8192 ≤ s then 255
  else (510 * s + 8192) / 16384

/-- `srgb8(v)` (R476). -/
def srgb8 (v : BitVec 16) : Byte := BitVec.ofNat 8 (srgb8Nat (clampS213 v))

/-- `lin8(v)` (R477). -/
def lin8 (v : BitVec 16) : Byte := BitVec.ofNat 8 (lin8Nat (clampS213 v))

/-- The colour channels' function of a mode (R475, R478): `f <- if FXC_MODE[1:0] = 0 then srgb8 else lin8`. -/
def decodeChannel (m : FxcMode) (v : BitVec 16) : Byte := if m = .toSrgb then srgb8 v else lin8 v

/-- The 8-bit pixel of `FXC_LO`, `FXC_HI` (R474, R475): alpha is always linear. -/
def decodePixel (m : FxcMode) (lo hi : Word) : Pixel :=
  { r := decodeChannel m (hi.extractLsb' 0 16)
    g := decodeChannel m (lo.extractLsb' 16 16)
    b := decodeChannel m (lo.extractLsb' 0 16)
    a := lin8 (hi.extractLsb' 16 16) }

/-! ## Encode direction -/

/-- `ENC[c]` (R487). -/
def encTable : List Nat :=
  List.flatten
    [[0, 2, 5, 7, 10, 12, 15, 17, 20, 22, 25, 27, 30, 33, 36, 39],
     [42, 46, 50, 53, 57, 61, 66, 70, 75, 80, 85, 90, 95, 101, 106, 112],
     [118, 125, 131, 138, 145, 152, 159, 166, 174, 182, 190, 198, 206, 215, 224, 233],
     [242, 252, 261, 271, 281, 292, 302, 313, 324, 335, 347, 358, 370, 382, 395, 407],
     [420, 433, 446, 460, 474, 488, 502, 516, 531, 546, 561, 576, 592, 608, 624, 641],
     [657, 674, 691, 709, 726, 744, 762, 781, 799, 818, 838, 857, 877, 897, 917, 937],
     [958, 979, 1001, 1022, 1044, 1066, 1088, 1111, 1134, 1157, 1181, 1204, 1228, 1253, 1277, 1302],
     [1327, 1353, 1378, 1404, 1431, 1457, 1484, 1511, 1539, 1566, 1594, 1623, 1651, 1680, 1709, 1739],
     [1768, 1798, 1829, 1859, 1890, 1921, 1953, 1985, 2017, 2049, 2082, 2115, 2148, 2182, 2216, 2250],
     [2285, 2320, 2355, 2390, 2426, 2462, 2498, 2535, 2572, 2610, 2647, 2685, 2723, 2762, 2801, 2840],
     [2880, 2920, 2960, 3000, 3041, 3082, 3124, 3166, 3208, 3250, 3293, 3336, 3380, 3423, 3467, 3512],
     [3557, 3602, 3647, 3693, 3739, 3785, 3832, 3879, 3927, 3974, 4022, 4071, 4120, 4169, 4218, 4268],
     [4318, 4369, 4419, 4471, 4522, 4574, 4626, 4679, 4732, 4785, 4838, 4892, 4947, 5001, 5056, 5111],
     [5167, 5223, 5280, 5336, 5393, 5451, 5509, 5567, 5625, 5684, 5743, 5803, 5863, 5923, 5984, 6045],
     [6106, 6168, 6230, 6293, 6356, 6419, 6482, 6546, 6611, 6675, 6740, 6806, 6871, 6938, 7004, 7071],
     [7138, 7206, 7274, 7342, 7411, 7480, 7550, 7619, 7690, 7760, 7831, 7903, 7974, 8047, 8119, 8192]]

/-- `ENC[c]` (R487). -/
def encSrgb (c : Byte) : BitVec 16 := BitVec.ofNat 16 (encTable.getD c.toNat 0)

/-- `ENCA[c]` (R487). -/
def encLinear (c : Byte) : BitVec 16 := BitVec.ofNat 16 ((16384 * c.toNat + 255) / 510)

/-- The colour channels' function of a mode (R486): `e <- if FXC_MODE[1:0] = 0 then ENC else ENCA`. -/
def encodeChannel (m : FxcMode) (c : Byte) : BitVec 16 := if m = .toSrgb then encSrgb c else encLinear c

/-- `FXC_LO` of an 8-bit pixel: blue low, green high (R486). -/
def encodeLo (m : FxcMode) (p : Pixel) : Word := encodeChannel m p.g ++ encodeChannel m p.b

/-- `FXC_HI` of an 8-bit pixel: red low, alpha high, alpha always linear (R486). -/
def encodeHi (m : FxcMode) (p : Pixel) : Word := encLinear p.a ++ encodeChannel m p.r

/-! ## The commands -/

/-- The two tests of `FXC.DEC` and `FXC.ENC`, in their order (60_exceptions.md R523, R525, R529), then the conversion. -/
def fxcChecked (s t : State) (f : ResultFlags) : State :=
  if fxcParamsOk s = false then raise .errParam s
  else if s.fxcModeField = .none then raise .errUnsupported s
  else halt .ok f t

/-- `FXC.DEC` (R475). -/
def execFxcDec (s : State) : Host.Outcome State Fault Refusal :=
  whenIdle s fun t =>
    fxcChecked t { t with fxcRgba := (decodePixel t.fxcModeField t.fxcLo t.fxcHi).word } (alphaFlags true)

/-- `FXC.ENC` (R486). -/
def execFxcEnc (s : State) : Host.Outcome State Fault Refusal :=
  whenIdle s fun t =>
    fxcChecked t
      { t with
        fxcLo := encodeLo t.fxcModeField (pixelOfWord t.fxcRgba)
        fxcHi := encodeHi t.fxcModeField (pixelOfWord t.fxcRgba) }
      {}

end Sys2Proof.Machine
end

