-- ==== Sys2Proof/WellFormed.lean ====
section
/-! DEFINITION. When an instruction is well formed (30_encoding.md R100, R103). -/

namespace Sys2Proof

/-- The operand ranges a head encodes: `RUN` has n of 1 to 255, `ABS` has n of 3 to 255 (30_encoding.md R100). Commands and
T.4 code words have no operand that could be out of range (R91, R94). -/
def Instr.wellFormed : Instr → Bool
  | .runRle8 n _ => n != 0
  | .runRle4 n _ => n != 0
  | .runRle24 n _ => n != 0
  | .absRle8 n => decide (3 ≤ n.toNat)
  | .absRle4 n => decide (3 ≤ n.toNat)
  | .absRle24 n => decide (3 ≤ n.toNat)
  | _ => true

end Sys2Proof
end

