-- ==== Sys2Proof/Decode.lean ====
section
/-! DEFINITION. Decoding the three kinds of instruction (30_encoding.md R90), total and rejecting by name, then the encoder,
then the assembler's expansions (R119, R121). -/

namespace Sys2Proof

/-- Why a word, a bit string or a byte pair is no instruction. -/
inductive Reject where
  /-- A value written to `PDU_CMD` that is no legal command word (30_encoding.md R93). -/
  | illegalCommand
  /-- "Unrecognized code": the head of the buffer is in no tree (30_encoding.md R97). -/
  | unrecognisedCode
  /-- The valid bits end inside a code word (40_g3_huffman.md R138, `Exhausted`). -/
  | codeCutShort
  /-- The code does not have the form its context reads. -/
  | wrongForm
  deriving DecidableEq, Repr

/-! ## Command words (30_encoding.md R91 to R93) -/

/-- `CH` as a number (10_state.md R22). -/
def Channel.number : Channel → Nat
  | .r => 0
  | .g => 1
  | .b => 2
  | .a => 3

/-- The channel a value of `CH` names (10_state.md R22). -/
def channelOf (ch : BitVec 2) : Channel :=
  if ch = 0 then .r else if ch = 1 then .g else if ch = 2 then .b else .a

/-- `OP`, bits [7:0] (R91). -/
def opField (w : Word) : Byte := w.extractLsb' 0 8

/-- `CH`, bits [9:8] (R91). -/
def chField (w : Word) : BitVec 2 := w.extractLsb' 8 2

/-- Bits [31:10], which must be 0 (R91). -/
def commandRest (w : Word) : BitVec 22 := w.extractLsb' 10 22

/-- The commands whose `CH` must be 0, by `OP` (R92). -/
def plainCommands : List (Byte × Instr) :=
  [(0x00, .nop), (0x01, .g3Reset), (0x02, .g3Line), (0x10, .rleDecode), (0x22, .cmeRgba), (0x30, .fxcDec),
   (0x31, .fxcEnc), (0x40, .icnUnpack1), (0x41, .icnMono), (0x42, .icnAlpha)]

/-- A value written to `PDU_CMD` (R91 to R93). -/
def decodeCommand (w : Word) : Except Reject Instr :=
  if commandRest w ≠ 0 then .error .illegalCommand
  else if opField w = 0x20 then .ok (.cmeNew (channelOf (chField w)))
  else if opField w = 0x21 then .ok (.cmeExtract (channelOf (chField w)))
  else if chField w ≠ 0 then .error .illegalCommand
  else match plainCommands.lookup (opField w) with
    | some i => .ok i
    | none => .error .illegalCommand

/-! ## T.4 code words (30_encoding.md R94 to R99, 40_g3_huffman.md R136 to R138, R150 to R155) -/

/-- One row of the tables of 40_g3_huffman.md R150 to R154: the code word's number is `value` in `len` bits. -/
structure T4Row where
  instr : Instr
  run   : Nat
  len   : Nat
  value : Nat
  deriving DecidableEq, Repr

/-- White terminal codes (R150). -/
def whiteTerminal : List T4Row :=
  [⟨.wt0, 0, 8, 0x35⟩, ⟨.wt1, 1, 6, 0x7⟩, ⟨.wt2, 2, 4, 0x7⟩, ⟨.wt3, 3, 4, 0x8⟩,
   ⟨.wt4, 4, 4, 0xB⟩, ⟨.wt5, 5, 4, 0xC⟩, ⟨.wt6, 6, 4, 0xE⟩, ⟨.wt7, 7, 4, 0xF⟩,
   ⟨.wt8, 8, 5, 0x13⟩, ⟨.wt9, 9, 5, 0x14⟩, ⟨.wt10, 10, 5, 0x7⟩, ⟨.wt11, 11, 5, 0x8⟩,
   ⟨.wt12, 12, 6, 0x8⟩, ⟨.wt13, 13, 6, 0x3⟩, ⟨.wt14, 14, 6, 0x34⟩, ⟨.wt15, 15, 6, 0x35⟩] ++
  [⟨.wt16, 16, 6, 0x2A⟩, ⟨.wt17, 17, 6, 0x2B⟩, ⟨.wt18, 18, 7, 0x27⟩, ⟨.wt19, 19, 7, 0xC⟩,
   ⟨.wt20, 20, 7, 0x8⟩, ⟨.wt21, 21, 7, 0x17⟩, ⟨.wt22, 22, 7, 0x3⟩, ⟨.wt23, 23, 7, 0x4⟩,
   ⟨.wt24, 24, 7, 0x28⟩, ⟨.wt25, 25, 7, 0x2B⟩, ⟨.wt26, 26, 7, 0x13⟩, ⟨.wt27, 27, 7, 0x24⟩,
   ⟨.wt28, 28, 7, 0x18⟩, ⟨.wt29, 29, 8, 0x2⟩, ⟨.wt30, 30, 8, 0x3⟩, ⟨.wt31, 31, 8, 0x1A⟩] ++
  [⟨.wt32, 32, 8, 0x1B⟩, ⟨.wt33, 33, 8, 0x12⟩, ⟨.wt34, 34, 8, 0x13⟩, ⟨.wt35, 35, 8, 0x14⟩,
   ⟨.wt36, 36, 8, 0x15⟩, ⟨.wt37, 37, 8, 0x16⟩, ⟨.wt38, 38, 8, 0x17⟩, ⟨.wt39, 39, 8, 0x28⟩,
   ⟨.wt40, 40, 8, 0x29⟩, ⟨.wt41, 41, 8, 0x2A⟩, ⟨.wt42, 42, 8, 0x2B⟩, ⟨.wt43, 43, 8, 0x2C⟩,
   ⟨.wt44, 44, 8, 0x2D⟩, ⟨.wt45, 45, 8, 0x4⟩, ⟨.wt46, 46, 8, 0x5⟩, ⟨.wt47, 47, 8, 0xA⟩] ++
  [⟨.wt48, 48, 8, 0xB⟩, ⟨.wt49, 49, 8, 0x52⟩, ⟨.wt50, 50, 8, 0x53⟩, ⟨.wt51, 51, 8, 0x54⟩,
   ⟨.wt52, 52, 8, 0x55⟩, ⟨.wt53, 53, 8, 0x24⟩, ⟨.wt54, 54, 8, 0x25⟩, ⟨.wt55, 55, 8, 0x58⟩,
   ⟨.wt56, 56, 8, 0x59⟩, ⟨.wt57, 57, 8, 0x5A⟩, ⟨.wt58, 58, 8, 0x5B⟩, ⟨.wt59, 59, 8, 0x4A⟩,
   ⟨.wt60, 60, 8, 0x4B⟩, ⟨.wt61, 61, 8, 0x32⟩, ⟨.wt62, 62, 8, 0x33⟩, ⟨.wt63, 63, 8, 0x34⟩]

/-- White make-up codes (R151). -/
def whiteMakeup : List T4Row :=
  [⟨.wm64, 64, 5, 0x1B⟩, ⟨.wm128, 128, 5, 0x12⟩, ⟨.wm192, 192, 6, 0x17⟩, ⟨.wm256, 256, 7, 0x37⟩,
   ⟨.wm320, 320, 8, 0x36⟩, ⟨.wm384, 384, 8, 0x37⟩, ⟨.wm448, 448, 8, 0x64⟩, ⟨.wm512, 512, 8, 0x65⟩,
   ⟨.wm576, 576, 8, 0x68⟩, ⟨.wm640, 640, 8, 0x67⟩, ⟨.wm704, 704, 9, 0xCC⟩, ⟨.wm768, 768, 9, 0xCD⟩,
   ⟨.wm832, 832, 9, 0xD2⟩, ⟨.wm896, 896, 9, 0xD3⟩, ⟨.wm960, 960, 9, 0xD4⟩, ⟨.wm1024, 1024, 9, 0xD5⟩] ++
  [⟨.wm1088, 1088, 9, 0xD6⟩, ⟨.wm1152, 1152, 9, 0xD7⟩, ⟨.wm1216, 1216, 9, 0xD8⟩, ⟨.wm1280, 1280, 9, 0xD9⟩,
   ⟨.wm1344, 1344, 9, 0xDA⟩, ⟨.wm1408, 1408, 9, 0xDB⟩, ⟨.wm1472, 1472, 9, 0x98⟩, ⟨.wm1536, 1536, 9, 0x99⟩,
   ⟨.wm1600, 1600, 9, 0x9A⟩, ⟨.wm1664, 1664, 6, 0x18⟩, ⟨.wm1728, 1728, 9, 0x9B⟩]

/-- Black terminal codes (R152). -/
def blackTerminal : List T4Row :=
  [⟨.bt0, 0, 10, 0x37⟩, ⟨.bt1, 1, 3, 0x2⟩, ⟨.bt2, 2, 2, 0x3⟩, ⟨.bt3, 3, 2, 0x2⟩,
   ⟨.bt4, 4, 3, 0x3⟩, ⟨.bt5, 5, 4, 0x3⟩, ⟨.bt6, 6, 4, 0x2⟩, ⟨.bt7, 7, 5, 0x3⟩,
   ⟨.bt8, 8, 6, 0x5⟩, ⟨.bt9, 9, 6, 0x4⟩, ⟨.bt10, 10, 7, 0x4⟩, ⟨.bt11, 11, 7, 0x5⟩,
   ⟨.bt12, 12, 7, 0x7⟩, ⟨.bt13, 13, 8, 0x4⟩, ⟨.bt14, 14, 8, 0x7⟩, ⟨.bt15, 15, 9, 0x18⟩] ++
  [⟨.bt16, 16, 10, 0x17⟩, ⟨.bt17, 17, 10, 0x18⟩, ⟨.bt18, 18, 10, 0x8⟩, ⟨.bt19, 19, 11, 0x67⟩,
   ⟨.bt20, 20, 11, 0x68⟩, ⟨.bt21, 21, 11, 0x6C⟩, ⟨.bt22, 22, 11, 0x37⟩, ⟨.bt23, 23, 11, 0x28⟩,
   ⟨.bt24, 24, 11, 0x17⟩, ⟨.bt25, 25, 11, 0x18⟩, ⟨.bt26, 26, 12, 0xCA⟩, ⟨.bt27, 27, 12, 0xCB⟩,
   ⟨.bt28, 28, 12, 0xCC⟩, ⟨.bt29, 29, 12, 0xCD⟩, ⟨.bt30, 30, 12, 0x68⟩, ⟨.bt31, 31, 12, 0x69⟩] ++
  [⟨.bt32, 32, 12, 0x6A⟩, ⟨.bt33, 33, 12, 0x6B⟩, ⟨.bt34, 34, 12, 0xD2⟩, ⟨.bt35, 35, 12, 0xD3⟩,
   ⟨.bt36, 36, 12, 0xD4⟩, ⟨.bt37, 37, 12, 0xD5⟩, ⟨.bt38, 38, 12, 0xD6⟩, ⟨.bt39, 39, 12, 0xD7⟩,
   ⟨.bt40, 40, 12, 0x6C⟩, ⟨.bt41, 41, 12, 0x6D⟩, ⟨.bt42, 42, 12, 0xDA⟩, ⟨.bt43, 43, 12, 0xDB⟩,
   ⟨.bt44, 44, 12, 0x54⟩, ⟨.bt45, 45, 12, 0x55⟩, ⟨.bt46, 46, 12, 0x56⟩, ⟨.bt47, 47, 12, 0x57⟩] ++
  [⟨.bt48, 48, 12, 0x64⟩, ⟨.bt49, 49, 12, 0x65⟩, ⟨.bt50, 50, 12, 0x52⟩, ⟨.bt51, 51, 12, 0x53⟩,
   ⟨.bt52, 52, 12, 0x24⟩, ⟨.bt53, 53, 12, 0x37⟩, ⟨.bt54, 54, 12, 0x38⟩, ⟨.bt55, 55, 12, 0x27⟩,
   ⟨.bt56, 56, 12, 0x28⟩, ⟨.bt57, 57, 12, 0x58⟩, ⟨.bt58, 58, 12, 0x59⟩, ⟨.bt59, 59, 12, 0x2B⟩,
   ⟨.bt60, 60, 12, 0x2C⟩, ⟨.bt61, 61, 12, 0x5A⟩, ⟨.bt62, 62, 12, 0x66⟩, ⟨.bt63, 63, 12, 0x67⟩]

/-- Black make-up codes (R153). -/
def blackMakeup : List T4Row :=
  [⟨.bm64, 64, 10, 0xF⟩, ⟨.bm128, 128, 12, 0xC8⟩, ⟨.bm192, 192, 12, 0xC9⟩, ⟨.bm256, 256, 12, 0x5B⟩,
   ⟨.bm320, 320, 12, 0x33⟩, ⟨.bm384, 384, 12, 0x34⟩, ⟨.bm448, 448, 12, 0x35⟩, ⟨.bm512, 512, 13, 0x6C⟩,
   ⟨.bm576, 576, 13, 0x6D⟩, ⟨.bm640, 640, 13, 0x4A⟩, ⟨.bm704, 704, 13, 0x4B⟩, ⟨.bm768, 768, 13, 0x4C⟩,
   ⟨.bm832, 832, 13, 0x4D⟩, ⟨.bm896, 896, 13, 0x72⟩, ⟨.bm960, 960, 13, 0x73⟩, ⟨.bm1024, 1024, 13, 0x74⟩] ++
  [⟨.bm1088, 1088, 13, 0x75⟩, ⟨.bm1152, 1152, 13, 0x76⟩, ⟨.bm1216, 1216, 13, 0x77⟩, ⟨.bm1280, 1280, 13, 0x52⟩,
   ⟨.bm1344, 1344, 13, 0x53⟩, ⟨.bm1408, 1408, 13, 0x54⟩, ⟨.bm1472, 1472, 13, 0x55⟩, ⟨.bm1536, 1536, 13, 0x5A⟩,
   ⟨.bm1600, 1600, 13, 0x5B⟩, ⟨.bm1664, 1664, 13, 0x64⟩, ⟨.bm1728, 1728, 13, 0x65⟩]

/-- Shared make-up codes, in both trees (R154; the table starts at 1792 itself, 90_conflicts.md C2). -/
def sharedMakeup : List T4Row :=
  [⟨.xm1792, 1792, 11, 0x8⟩, ⟨.xm1856, 1856, 11, 0xC⟩, ⟨.xm1920, 1920, 11, 0xD⟩, ⟨.xm1984, 1984, 12, 0x12⟩,
   ⟨.xm2048, 2048, 12, 0x13⟩, ⟨.xm2112, 2112, 12, 0x14⟩, ⟨.xm2176, 2176, 12, 0x15⟩, ⟨.xm2240, 2240, 12, 0x16⟩,
   ⟨.xm2304, 2304, 12, 0x17⟩, ⟨.xm2368, 2368, 12, 0x1C⟩, ⟨.xm2432, 2432, 12, 0x1D⟩, ⟨.xm2496, 2496, 12, 0x1E⟩,
   ⟨.xm2560, 2560, 12, 0x1F⟩]

/-- The 104 code words of a colour's tree, in the order R137 inserts them. -/
def treeRows : Color → List T4Row
  | .white => whiteTerminal ++ whiteMakeup ++ sharedMakeup
  | .black => blackTerminal ++ blackMakeup ++ sharedMakeup

/-- A code tree (R136): `absent` is the child index -1. The numbering of the nodes is not kept, being visible to nothing
outside the engine (R137; 93_implementation_defined.md U15; log 14). -/
inductive Tree where
  | absent
  | leaf (i : Instr)
  | node (left right : Tree)
  deriving DecidableEq, Repr

/-- The bits of a code word, the leftmost (most significant) first (R94). -/
def codeBits (len value : Nat) : List Bool :=
  (List.range len).map fun k => value.testBit (len - 1 - k)

/-- Inserting a code: walk from the root bit by bit, adding a node where the needed child is absent (R137). -/
def Tree.insert (i : Instr) : List Bool → Tree → Tree
  | [], _ => .leaf i
  | false :: bs, .node l r => .node (Tree.insert i bs l) r
  | true :: bs, .node l r => .node l (Tree.insert i bs r)
  | false :: bs, _ => .node (Tree.insert i bs .absent) .absent
  | true :: bs, _ => .node .absent (Tree.insert i bs .absent)

/-- The tree built from a list of rows, starting from a root without children (R137). -/
def buildTree (rows : List T4Row) : Tree :=
  rows.foldl (fun t r => t.insert r.instr (codeBits r.len r.value)) (.node .absent .absent)

/-- `WTREE` (R137). -/
def whiteTree : Tree := buildTree (treeRows .white)

/-- `BTREE` (R137). -/
def blackTree : Tree := buildTree (treeRows .black)

/-- The tree a colour looks its codes up in (30_encoding.md R94). -/
def treeOf : Color → Tree
  | .white => whiteTree
  | .black => blackTree

/-- Leaves and inner nodes of a tree, the absent children left out (R137, R155(e)). -/
def Tree.size : Tree → Nat
  | .absent => 0
  | .leaf _ => 1
  | .node l r => l.size + r.size + 1

/-- The leaves of a tree (R137). -/
def Tree.leaves : Tree → Nat
  | .absent => 0
  | .leaf _ => 1
  | .node l r => l.leaves + r.leaves

/-- `peek(i)`: the i-th next bit of a left-aligned buffer (R134). -/
def peek (buf : Word) (i : Nat) : Bool := buf.getLsbD (31 - i)

/-- The walk of `lookup` (R138): bits are looked at, none is consumed. `bits` is the number of valid bits, `i` the bits
walked so far. The end of the valid bits is tested before the child is. -/
def walk : Tree → Word → Nat → Nat → Except Reject (Instr × Nat)
  | .leaf ins, _, _, i => .ok (ins, i)
  | .absent, _, _, _ => .error .unrecognisedCode
  | .node l r, buf, bits, i =>
    if bits ≤ i then .error .codeCutShort
    else if peek buf i then walk r buf bits (i + 1) else walk l buf bits (i + 1)

/-- `lookup(color)` (R138): the code word at the head of the buffer and its length. -/
def lookup (c : Color) (buf : Word) (bits : Nat) : Except Reject (Instr × Nat) := walk (treeOf c) buf bits 0

/-- `at_eol()` (R135): at least 12 valid bits, the top twelve being 000000000001. -/
def atEol (buf : Word) (bits : Nat) : Bool := decide (12 ≤ bits) && (buf.extractLsb' 20 12 == 0x001#12)

/-- The next token of a G3 line: the EOL pattern is tested for only before the first code word of a run (R140, R147). -/
def decodeG3 (c : Color) (runStart : Bool) (buf : Word) (bits : Nat) : Except Reject (Instr × Nat) :=
  if runStart && atEol buf bits then .ok (.eol, 12) else lookup c buf bits

/-! ## RLE heads (30_encoding.md R100 to R103) -/

/-- The command of a head `a`, `b` in a mode; no head is reserved (R100, R103). -/
def decodeRle (m : RleMode) (a b : Byte) : Instr :=
  if a ≠ 0 then
    match m with
    | .rle8 => .runRle8 a b
    | .rle4 => .runRle4 a b
    | .rle24 => .runRle24 a b
  else if b = 0 then .rleEol
  else if b = 1 then .eob
  else if b = 2 then .delta
  else
    match m with
    | .rle8 => .absRle8 b
    | .rle4 => .absRle4 b
    | .rle24 => .absRle24 b

/-! ## One decoder over the three forms -/

/-- The encoded form of an instruction (30_encoding.md R90): a command word, a code word's bits in the order of the stream,
or the bytes of an RLE head. -/
inductive Code where
  | command (w : Word)
  | bits (bs : List Bool)
  | bytes (bs : List Byte)
  deriving DecidableEq, Repr

/-- What decides the meaning of a code: which engine reads it, and in which state (30_encoding.md R94, R100). -/
inductive Context where
  | command
  | codeWord (c : Color) (runStart : Bool)
  | rle (m : RleMode)
  deriving DecidableEq, Repr

/-- A bit buffer that holds just the given bits, left-aligned (10_state.md R29). -/
def bufferOf (bs : List Bool) : Word :=
  BitVec.ofNat 32 (bs.foldl (fun n b => 2 * n + b.toNat) 0) <<< (32 - bs.length)

/-- A code read whole in its context. -/
def decode : Context → Code → Except Reject Instr
  | .command, .command w => decodeCommand w
  | .codeWord c runStart, .bits bs =>
    match decodeG3 c runStart (bufferOf bs) bs.length with
    | .ok (i, len) => if len = bs.length then .ok i else .error .wrongForm
    | .error e => .error e
  | .rle m, .bytes [a, b] => .ok (decodeRle m a b)
  | _, _ => .error .wrongForm

/-- The lengths a table word of `nbits` bits may have as a code word, longest first: its bits may be counted in whole bytes, and
the zeros above the code are then none of it. In 16 bits the words 0 to 2 are the RLE escapes (log 17). -/
def tableCodeLengths (nbits w : Nat) : List Nat :=
  if nbits = 16 then (if w < 3 then [] else [13, 12, 11, 10, 9])
  else if nbits < 16 then (List.range (nbits + 1)).reverse
  else []

/-- The code word of a given length in a tree that a number is, if any. -/
def codeWordOf (c : Color) (len w : Nat) : Option Instr :=
  if w < 2 ^ len then (decode (.codeWord c true) (.bits (codeBits len w))).toOption else none

/-- The first of the given lengths at which a number is a code word, in the white tree or else in the black. -/
def findCodeWord (w : Nat) : List Nat → Option (Color × Nat × Instr)
  | [] => none
  | len :: rest =>
    match codeWordOf .white len w, codeWordOf .black len w with
    | some i, _ => some (.white, len, i)
    | none, some i => some (.black, len, i)
    | none, none => findCodeWord w rest

/-- A table word as a code word: the colour it is read in, its length, and the instruction. -/
def tableCodeWord (nbits w : Nat) : Option (Color × Nat × Instr) := findCodeWord w (tableCodeLengths nbits w)

/-- The instruction of a table word (spec/opcode_table.json numbers the bits): 32 bits are a command word; fewer are a code
word, looked up in the white tree first, since a line starts in white; 16 bits that are none are an RLE head `a || b`, read in
the mode of reset, RLE8 (log 17). -/
def decodeTableWord (nbits w : Nat) : Option Instr :=
  if nbits = 32 then (decode .command (.command (BitVec.ofNat 32 w))).toOption
  else
    match tableCodeWord nbits w with
    | some (_, _, i) => some i
    | none =>
      if nbits = 16 then (decode (.rle .rle8) (.bytes [BitVec.ofNat 8 (w / 256), BitVec.ofNat 8 w])).toOption
      else none

/-! ## The encoder -/

/-- Digits of a code word as the tables print it, leftmost first (40_g3_huffman.md R150 to R154). -/
def bitString (ds : List Nat) : List Bool := ds.map fun d => d == 1

/-- A command word: `OP` and `CH` (30_encoding.md R91). -/
def commandWord (op : Nat) (ch : Nat) : Word := BitVec.ofNat 32 (op + 256 * ch)

/-- The code of an instruction, from the command numbers (30_encoding.md R92), the printed bit strings of the code tables
(R94 to R96) and the RLE heads (R100). -/
def encode : Instr → Code
  | .nop => .command (commandWord 0x00 0)
  | .g3Reset => .command (commandWord 0x01 0)
  | .g3Line => .command (commandWord 0x02 0)
  | .rleDecode => .command (commandWord 0x10 0)
  | .cmeNew ch => .command (commandWord 0x20 ch.number)
  | .cmeExtract ch => .command (commandWord 0x21 ch.number)
  | .cmeRgba => .command (commandWord 0x22 0)
  | .fxcDec => .command (commandWord 0x30 0)
  | .fxcEnc => .command (commandWord 0x31 0)
  | .icnUnpack1 => .command (commandWord 0x40 0)
  | .icnMono => .command (commandWord 0x41 0)
  | .icnAlpha => .command (commandWord 0x42 0)
  | .wt0 => .bits (bitString [0, 0, 1, 1, 0, 1, 0, 1])
  | .wt1 => .bits (bitString [0, 0, 0, 1, 1, 1])
  | .wt2 => .bits (bitString [0, 1, 1, 1])
  | .wt3 => .bits (bitString [1, 0, 0, 0])
  | .wt4 => .bits (bitString [1, 0, 1, 1])
  | .wt5 => .bits (bitString [1, 1, 0, 0])
  | .wt6 => .bits (bitString [1, 1, 1, 0])
  | .wt7 => .bits (bitString [1, 1, 1, 1])
  | .wt8 => .bits (bitString [1, 0, 0, 1, 1])
  | .wt9 => .bits (bitString [1, 0, 1, 0, 0])
  | .wt10 => .bits (bitString [0, 0, 1, 1, 1])
  | .wt11 => .bits (bitString [0, 1, 0, 0, 0])
  | .wt12 => .bits (bitString [0, 0, 1, 0, 0, 0])
  | .wt13 => .bits (bitString [0, 0, 0, 0, 1, 1])
  | .wt14 => .bits (bitString [1, 1, 0, 1, 0, 0])
  | .wt15 => .bits (bitString [1, 1, 0, 1, 0, 1])
  | .wt16 => .bits (bitString [1, 0, 1, 0, 1, 0])
  | .wt17 => .bits (bitString [1, 0, 1, 0, 1, 1])
  | .wt18 => .bits (bitString [0, 1, 0, 0, 1, 1, 1])
  | .wt19 => .bits (bitString [0, 0, 0, 1, 1, 0, 0])
  | .wt20 => .bits (bitString [0, 0, 0, 1, 0, 0, 0])
  | .wt21 => .bits (bitString [0, 0, 1, 0, 1, 1, 1])
  | .wt22 => .bits (bitString [0, 0, 0, 0, 0, 1, 1])
  | .wt23 => .bits (bitString [0, 0, 0, 0, 1, 0, 0])
  | .wt24 => .bits (bitString [0, 1, 0, 1, 0, 0, 0])
  | .wt25 => .bits (bitString [0, 1, 0, 1, 0, 1, 1])
  | .wt26 => .bits (bitString [0, 0, 1, 0, 0, 1, 1])
  | .wt27 => .bits (bitString [0, 1, 0, 0, 1, 0, 0])
  | .wt28 => .bits (bitString [0, 0, 1, 1, 0, 0, 0])
  | .wt29 => .bits (bitString [0, 0, 0, 0, 0, 0, 1, 0])
  | .wt30 => .bits (bitString [0, 0, 0, 0, 0, 0, 1, 1])
  | .wt31 => .bits (bitString [0, 0, 0, 1, 1, 0, 1, 0])
  | .wt32 => .bits (bitString [0, 0, 0, 1, 1, 0, 1, 1])
  | .wt33 => .bits (bitString [0, 0, 0, 1, 0, 0, 1, 0])
  | .wt34 => .bits (bitString [0, 0, 0, 1, 0, 0, 1, 1])
  | .wt35 => .bits (bitString [0, 0, 0, 1, 0, 1, 0, 0])
  | .wt36 => .bits (bitString [0, 0, 0, 1, 0, 1, 0, 1])
  | .wt37 => .bits (bitString [0, 0, 0, 1, 0, 1, 1, 0])
  | .wt38 => .bits (bitString [0, 0, 0, 1, 0, 1, 1, 1])
  | .wt39 => .bits (bitString [0, 0, 1, 0, 1, 0, 0, 0])
  | .wt40 => .bits (bitString [0, 0, 1, 0, 1, 0, 0, 1])
  | .wt41 => .bits (bitString [0, 0, 1, 0, 1, 0, 1, 0])
  | .wt42 => .bits (bitString [0, 0, 1, 0, 1, 0, 1, 1])
  | .wt43 => .bits (bitString [0, 0, 1, 0, 1, 1, 0, 0])
  | .wt44 => .bits (bitString [0, 0, 1, 0, 1, 1, 0, 1])
  | .wt45 => .bits (bitString [0, 0, 0, 0, 0, 1, 0, 0])
  | .wt46 => .bits (bitString [0, 0, 0, 0, 0, 1, 0, 1])
  | .wt47 => .bits (bitString [0, 0, 0, 0, 1, 0, 1, 0])
  | .wt48 => .bits (bitString [0, 0, 0, 0, 1, 0, 1, 1])
  | .wt49 => .bits (bitString [0, 1, 0, 1, 0, 0, 1, 0])
  | .wt50 => .bits (bitString [0, 1, 0, 1, 0, 0, 1, 1])
  | .wt51 => .bits (bitString [0, 1, 0, 1, 0, 1, 0, 0])
  | .wt52 => .bits (bitString [0, 1, 0, 1, 0, 1, 0, 1])
  | .wt53 => .bits (bitString [0, 0, 1, 0, 0, 1, 0, 0])
  | .wt54 => .bits (bitString [0, 0, 1, 0, 0, 1, 0, 1])
  | .wt55 => .bits (bitString [0, 1, 0, 1, 1, 0, 0, 0])
  | .wt56 => .bits (bitString [0, 1, 0, 1, 1, 0, 0, 1])
  | .wt57 => .bits (bitString [0, 1, 0, 1, 1, 0, 1, 0])
  | .wt58 => .bits (bitString [0, 1, 0, 1, 1, 0, 1, 1])
  | .wt59 => .bits (bitString [0, 1, 0, 0, 1, 0, 1, 0])
  | .wt60 => .bits (bitString [0, 1, 0, 0, 1, 0, 1, 1])
  | .wt61 => .bits (bitString [0, 0, 1, 1, 0, 0, 1, 0])
  | .wt62 => .bits (bitString [0, 0, 1, 1, 0, 0, 1, 1])
  | .wt63 => .bits (bitString [0, 0, 1, 1, 0, 1, 0, 0])
  | .wm64 => .bits (bitString [1, 1, 0, 1, 1])
  | .wm128 => .bits (bitString [1, 0, 0, 1, 0])
  | .wm192 => .bits (bitString [0, 1, 0, 1, 1, 1])
  | .wm256 => .bits (bitString [0, 1, 1, 0, 1, 1, 1])
  | .wm320 => .bits (bitString [0, 0, 1, 1, 0, 1, 1, 0])
  | .wm384 => .bits (bitString [0, 0, 1, 1, 0, 1, 1, 1])
  | .wm448 => .bits (bitString [0, 1, 1, 0, 0, 1, 0, 0])
  | .wm512 => .bits (bitString [0, 1, 1, 0, 0, 1, 0, 1])
  | .wm576 => .bits (bitString [0, 1, 1, 0, 1, 0, 0, 0])
  | .wm640 => .bits (bitString [0, 1, 1, 0, 0, 1, 1, 1])
  | .wm704 => .bits (bitString [0, 1, 1, 0, 0, 1, 1, 0, 0])
  | .wm768 => .bits (bitString [0, 1, 1, 0, 0, 1, 1, 0, 1])
  | .wm832 => .bits (bitString [0, 1, 1, 0, 1, 0, 0, 1, 0])
  | .wm896 => .bits (bitString [0, 1, 1, 0, 1, 0, 0, 1, 1])
  | .wm960 => .bits (bitString [0, 1, 1, 0, 1, 0, 1, 0, 0])
  | .wm1024 => .bits (bitString [0, 1, 1, 0, 1, 0, 1, 0, 1])
  | .wm1088 => .bits (bitString [0, 1, 1, 0, 1, 0, 1, 1, 0])
  | .wm1152 => .bits (bitString [0, 1, 1, 0, 1, 0, 1, 1, 1])
  | .wm1216 => .bits (bitString [0, 1, 1, 0, 1, 1, 0, 0, 0])
  | .wm1280 => .bits (bitString [0, 1, 1, 0, 1, 1, 0, 0, 1])
  | .wm1344 => .bits (bitString [0, 1, 1, 0, 1, 1, 0, 1, 0])
  | .wm1408 => .bits (bitString [0, 1, 1, 0, 1, 1, 0, 1, 1])
  | .wm1472 => .bits (bitString [0, 1, 0, 0, 1, 1, 0, 0, 0])
  | .wm1536 => .bits (bitString [0, 1, 0, 0, 1, 1, 0, 0, 1])
  | .wm1600 => .bits (bitString [0, 1, 0, 0, 1, 1, 0, 1, 0])
  | .wm1664 => .bits (bitString [0, 1, 1, 0, 0, 0])
  | .wm1728 => .bits (bitString [0, 1, 0, 0, 1, 1, 0, 1, 1])
  | .bt0 => .bits (bitString [0, 0, 0, 0, 1, 1, 0, 1, 1, 1])
  | .bt1 => .bits (bitString [0, 1, 0])
  | .bt2 => .bits (bitString [1, 1])
  | .bt3 => .bits (bitString [1, 0])
  | .bt4 => .bits (bitString [0, 1, 1])
  | .bt5 => .bits (bitString [0, 0, 1, 1])
  | .bt6 => .bits (bitString [0, 0, 1, 0])
  | .bt7 => .bits (bitString [0, 0, 0, 1, 1])
  | .bt8 => .bits (bitString [0, 0, 0, 1, 0, 1])
  | .bt9 => .bits (bitString [0, 0, 0, 1, 0, 0])
  | .bt10 => .bits (bitString [0, 0, 0, 0, 1, 0, 0])
  | .bt11 => .bits (bitString [0, 0, 0, 0, 1, 0, 1])
  | .bt12 => .bits (bitString [0, 0, 0, 0, 1, 1, 1])
  | .bt13 => .bits (bitString [0, 0, 0, 0, 0, 1, 0, 0])
  | .bt14 => .bits (bitString [0, 0, 0, 0, 0, 1, 1, 1])
  | .bt15 => .bits (bitString [0, 0, 0, 0, 1, 1, 0, 0, 0])
  | .bt16 => .bits (bitString [0, 0, 0, 0, 0, 1, 0, 1, 1, 1])
  | .bt17 => .bits (bitString [0, 0, 0, 0, 0, 1, 1, 0, 0, 0])
  | .bt18 => .bits (bitString [0, 0, 0, 0, 0, 0, 1, 0, 0, 0])
  | .bt19 => .bits (bitString [0, 0, 0, 0, 1, 1, 0, 0, 1, 1, 1])
  | .bt20 => .bits (bitString [0, 0, 0, 0, 1, 1, 0, 1, 0, 0, 0])
  | .bt21 => .bits (bitString [0, 0, 0, 0, 1, 1, 0, 1, 1, 0, 0])
  | .bt22 => .bits (bitString [0, 0, 0, 0, 0, 1, 1, 0, 1, 1, 1])
  | .bt23 => .bits (bitString [0, 0, 0, 0, 0, 1, 0, 1, 0, 0, 0])
  | .bt24 => .bits (bitString [0, 0, 0, 0, 0, 0, 1, 0, 1, 1, 1])
  | .bt25 => .bits (bitString [0, 0, 0, 0, 0, 0, 1, 1, 0, 0, 0])
  | .bt26 => .bits (bitString [0, 0, 0, 0, 1, 1, 0, 0, 1, 0, 1, 0])
  | .bt27 => .bits (bitString [0, 0, 0, 0, 1, 1, 0, 0, 1, 0, 1, 1])
  | .bt28 => .bits (bitString [0, 0, 0, 0, 1, 1, 0, 0, 1, 1, 0, 0])
  | .bt29 => .bits (bitString [0, 0, 0, 0, 1, 1, 0, 0, 1, 1, 0, 1])
  | .bt30 => .bits (bitString [0, 0, 0, 0, 0, 1, 1, 0, 1, 0, 0, 0])
  | .bt31 => .bits (bitString [0, 0, 0, 0, 0, 1, 1, 0, 1, 0, 0, 1])
  | .bt32 => .bits (bitString [0, 0, 0, 0, 0, 1, 1, 0, 1, 0, 1, 0])
  | .bt33 => .bits (bitString [0, 0, 0, 0, 0, 1, 1, 0, 1, 0, 1, 1])
  | .bt34 => .bits (bitString [0, 0, 0, 0, 1, 1, 0, 1, 0, 0, 1, 0])
  | .bt35 => .bits (bitString [0, 0, 0, 0, 1, 1, 0, 1, 0, 0, 1, 1])
  | .bt36 => .bits (bitString [0, 0, 0, 0, 1, 1, 0, 1, 0, 1, 0, 0])
  | .bt37 => .bits (bitString [0, 0, 0, 0, 1, 1, 0, 1, 0, 1, 0, 1])
  | .bt38 => .bits (bitString [0, 0, 0, 0, 1, 1, 0, 1, 0, 1, 1, 0])
  | .bt39 => .bits (bitString [0, 0, 0, 0, 1, 1, 0, 1, 0, 1, 1, 1])
  | .bt40 => .bits (bitString [0, 0, 0, 0, 0, 1, 1, 0, 1, 1, 0, 0])
  | .bt41 => .bits (bitString [0, 0, 0, 0, 0, 1, 1, 0, 1, 1, 0, 1])
  | .bt42 => .bits (bitString [0, 0, 0, 0, 1, 1, 0, 1, 1, 0, 1, 0])
  | .bt43 => .bits (bitString [0, 0, 0, 0, 1, 1, 0, 1, 1, 0, 1, 1])
  | .bt44 => .bits (bitString [0, 0, 0, 0, 0, 1, 0, 1, 0, 1, 0, 0])
  | .bt45 => .bits (bitString [0, 0, 0, 0, 0, 1, 0, 1, 0, 1, 0, 1])
  | .bt46 => .bits (bitString [0, 0, 0, 0, 0, 1, 0, 1, 0, 1, 1, 0])
  | .bt47 => .bits (bitString [0, 0, 0, 0, 0, 1, 0, 1, 0, 1, 1, 1])
  | .bt48 => .bits (bitString [0, 0, 0, 0, 0, 1, 1, 0, 0, 1, 0, 0])
  | .bt49 => .bits (bitString [0, 0, 0, 0, 0, 1, 1, 0, 0, 1, 0, 1])
  | .bt50 => .bits (bitString [0, 0, 0, 0, 0, 1, 0, 1, 0, 0, 1, 0])
  | .bt51 => .bits (bitString [0, 0, 0, 0, 0, 1, 0, 1, 0, 0, 1, 1])
  | .bt52 => .bits (bitString [0, 0, 0, 0, 0, 0, 1, 0, 0, 1, 0, 0])
  | .bt53 => .bits (bitString [0, 0, 0, 0, 0, 0, 1, 1, 0, 1, 1, 1])
  | .bt54 => .bits (bitString [0, 0, 0, 0, 0, 0, 1, 1, 1, 0, 0, 0])
  | .bt55 => .bits (bitString [0, 0, 0, 0, 0, 0, 1, 0, 0, 1, 1, 1])
  | .bt56 => .bits (bitString [0, 0, 0, 0, 0, 0, 1, 0, 1, 0, 0, 0])
  | .bt57 => .bits (bitString [0, 0, 0, 0, 0, 1, 0, 1, 1, 0, 0, 0])
  | .bt58 => .bits (bitString [0, 0, 0, 0, 0, 1, 0, 1, 1, 0, 0, 1])
  | .bt59 => .bits (bitString [0, 0, 0, 0, 0, 0, 1, 0, 1, 0, 1, 1])
  | .bt60 => .bits (bitString [0, 0, 0, 0, 0, 0, 1, 0, 1, 1, 0, 0])
  | .bt61 => .bits (bitString [0, 0, 0, 0, 0, 1, 0, 1, 1, 0, 1, 0])
  | .bt62 => .bits (bitString [0, 0, 0, 0, 0, 1, 1, 0, 0, 1, 1, 0])
  | .bt63 => .bits (bitString [0, 0, 0, 0, 0, 1, 1, 0, 0, 1, 1, 1])
  | .bm64 => .bits (bitString [0, 0, 0, 0, 0, 0, 1, 1, 1, 1])
  | .bm128 => .bits (bitString [0, 0, 0, 0, 1, 1, 0, 0, 1, 0, 0, 0])
  | .bm192 => .bits (bitString [0, 0, 0, 0, 1, 1, 0, 0, 1, 0, 0, 1])
  | .bm256 => .bits (bitString [0, 0, 0, 0, 0, 1, 0, 1, 1, 0, 1, 1])
  | .bm320 => .bits (bitString [0, 0, 0, 0, 0, 0, 1, 1, 0, 0, 1, 1])
  | .bm384 => .bits (bitString [0, 0, 0, 0, 0, 0, 1, 1, 0, 1, 0, 0])
  | .bm448 => .bits (bitString [0, 0, 0, 0, 0, 0, 1, 1, 0, 1, 0, 1])
  | .bm512 => .bits (bitString [0, 0, 0, 0, 0, 0, 1, 1, 0, 1, 1, 0, 0])
  | .bm576 => .bits (bitString [0, 0, 0, 0, 0, 0, 1, 1, 0, 1, 1, 0, 1])
  | .bm640 => .bits (bitString [0, 0, 0, 0, 0, 0, 1, 0, 0, 1, 0, 1, 0])
  | .bm704 => .bits (bitString [0, 0, 0, 0, 0, 0, 1, 0, 0, 1, 0, 1, 1])
  | .bm768 => .bits (bitString [0, 0, 0, 0, 0, 0, 1, 0, 0, 1, 1, 0, 0])
  | .bm832 => .bits (bitString [0, 0, 0, 0, 0, 0, 1, 0, 0, 1, 1, 0, 1])
  | .bm896 => .bits (bitString [0, 0, 0, 0, 0, 0, 1, 1, 1, 0, 0, 1, 0])
  | .bm960 => .bits (bitString [0, 0, 0, 0, 0, 0, 1, 1, 1, 0, 0, 1, 1])
  | .bm1024 => .bits (bitString [0, 0, 0, 0, 0, 0, 1, 1, 1, 0, 1, 0, 0])
  | .bm1088 => .bits (bitString [0, 0, 0, 0, 0, 0, 1, 1, 1, 0, 1, 0, 1])
  | .bm1152 => .bits (bitString [0, 0, 0, 0, 0, 0, 1, 1, 1, 0, 1, 1, 0])
  | .bm1216 => .bits (bitString [0, 0, 0, 0, 0, 0, 1, 1, 1, 0, 1, 1, 1])
  | .bm1280 => .bits (bitString [0, 0, 0, 0, 0, 0, 1, 0, 1, 0, 0, 1, 0])
  | .bm1344 => .bits (bitString [0, 0, 0, 0, 0, 0, 1, 0, 1, 0, 0, 1, 1])
  | .bm1408 => .bits (bitString [0, 0, 0, 0, 0, 0, 1, 0, 1, 0, 1, 0, 0])
  | .bm1472 => .bits (bitString [0, 0, 0, 0, 0, 0, 1, 0, 1, 0, 1, 0, 1])
  | .bm1536 => .bits (bitString [0, 0, 0, 0, 0, 0, 1, 0, 1, 1, 0, 1, 0])
  | .bm1600 => .bits (bitString [0, 0, 0, 0, 0, 0, 1, 0, 1, 1, 0, 1, 1])
  | .bm1664 => .bits (bitString [0, 0, 0, 0, 0, 0, 1, 1, 0, 0, 1, 0, 0])
  | .bm1728 => .bits (bitString [0, 0, 0, 0, 0, 0, 1, 1, 0, 0, 1, 0, 1])
  | .xm1792 => .bits (bitString [0, 0, 0, 0, 0, 0, 0, 1, 0, 0, 0])
  | .xm1856 => .bits (bitString [0, 0, 0, 0, 0, 0, 0, 1, 1, 0, 0])
  | .xm1920 => .bits (bitString [0, 0, 0, 0, 0, 0, 0, 1, 1, 0, 1])
  | .xm1984 => .bits (bitString [0, 0, 0, 0, 0, 0, 0, 1, 0, 0, 1, 0])
  | .xm2048 => .bits (bitString [0, 0, 0, 0, 0, 0, 0, 1, 0, 0, 1, 1])
  | .xm2112 => .bits (bitString [0, 0, 0, 0, 0, 0, 0, 1, 0, 1, 0, 0])
  | .xm2176 => .bits (bitString [0, 0, 0, 0, 0, 0, 0, 1, 0, 1, 0, 1])
  | .xm2240 => .bits (bitString [0, 0, 0, 0, 0, 0, 0, 1, 0, 1, 1, 0])
  | .xm2304 => .bits (bitString [0, 0, 0, 0, 0, 0, 0, 1, 0, 1, 1, 1])
  | .xm2368 => .bits (bitString [0, 0, 0, 0, 0, 0, 0, 1, 1, 1, 0, 0])
  | .xm2432 => .bits (bitString [0, 0, 0, 0, 0, 0, 0, 1, 1, 1, 0, 1])
  | .xm2496 => .bits (bitString [0, 0, 0, 0, 0, 0, 0, 1, 1, 1, 1, 0])
  | .xm2560 => .bits (bitString [0, 0, 0, 0, 0, 0, 0, 1, 1, 1, 1, 1])
  | .eol => .bits (bitString [0, 0, 0, 0, 0, 0, 0, 0, 0, 0, 0, 1])
  | .runRle8 n v => .bytes [n, v]
  | .runRle4 n v => .bytes [n, v]
  | .runRle24 n b => .bytes [n, b]
  | .absRle8 n => .bytes [0, n]
  | .absRle4 n => .bytes [0, n]
  | .absRle24 n => .bytes [0, n]
  | .rleEol => .bytes [0, 0]
  | .eob => .bytes [0, 1]
  | .delta => .bytes [0, 2]

/-- The contexts in which an instruction's code is read as that instruction: a code word in its colour's tree, before or
inside a run; EOL only before a run (R147); a `RUN` or `ABS` in its own mode, the other RLE commands in every mode. -/
def Instr.contexts : Instr → List Context
  | .nop | .g3Reset | .g3Line | .rleDecode | .cmeNew _ | .cmeExtract _ | .cmeRgba | .fxcDec | .fxcEnc | .icnUnpack1
    | .icnMono | .icnAlpha => [.command]
  | .wt0 | .wt1 | .wt2 | .wt3 | .wt4 | .wt5 | .wt6 | .wt7 | .wt8 | .wt9 |
    .wt10 | .wt11 | .wt12 | .wt13 | .wt14 | .wt15 | .wt16 | .wt17 | .wt18 | .wt19 |
    .wt20 | .wt21 | .wt22 | .wt23 | .wt24 | .wt25 | .wt26 | .wt27 | .wt28 | .wt29 |
    .wt30 | .wt31 | .wt32 | .wt33 | .wt34 | .wt35 | .wt36 | .wt37 | .wt38 | .wt39 |
    .wt40 | .wt41 | .wt42 | .wt43 | .wt44 | .wt45 | .wt46 | .wt47 | .wt48 | .wt49 |
    .wt50 | .wt51 | .wt52 | .wt53 | .wt54 | .wt55 | .wt56 | .wt57 | .wt58 | .wt59 |
    .wt60 | .wt61 | .wt62 | .wt63 | .wm64 | .wm128 | .wm192 | .wm256 | .wm320 | .wm384 |
    .wm448 | .wm512 | .wm576 | .wm640 | .wm704 | .wm768 | .wm832 | .wm896 | .wm960 | .wm1024 |
    .wm1088 | .wm1152 | .wm1216 | .wm1280 | .wm1344 | .wm1408 | .wm1472 | .wm1536 | .wm1600 | .wm1664 |
    .wm1728 =>
    [.codeWord .white true, .codeWord .white false]
  | .bt0 | .bt1 | .bt2 | .bt3 | .bt4 | .bt5 | .bt6 | .bt7 | .bt8 | .bt9 |
    .bt10 | .bt11 | .bt12 | .bt13 | .bt14 | .bt15 | .bt16 | .bt17 | .bt18 | .bt19 |
    .bt20 | .bt21 | .bt22 | .bt23 | .bt24 | .bt25 | .bt26 | .bt27 | .bt28 | .bt29 |
    .bt30 | .bt31 | .bt32 | .bt33 | .bt34 | .bt35 | .bt36 | .bt37 | .bt38 | .bt39 |
    .bt40 | .bt41 | .bt42 | .bt43 | .bt44 | .bt45 | .bt46 | .bt47 | .bt48 | .bt49 |
    .bt50 | .bt51 | .bt52 | .bt53 | .bt54 | .bt55 | .bt56 | .bt57 | .bt58 | .bt59 |
    .bt60 | .bt61 | .bt62 | .bt63 | .bm64 | .bm128 | .bm192 | .bm256 | .bm320 | .bm384 |
    .bm448 | .bm512 | .bm576 | .bm640 | .bm704 | .bm768 | .bm832 | .bm896 | .bm960 | .bm1024 |
    .bm1088 | .bm1152 | .bm1216 | .bm1280 | .bm1344 | .bm1408 | .bm1472 | .bm1536 | .bm1600 | .bm1664 |
    .bm1728 =>
    [.codeWord .black true, .codeWord .black false]
  | .xm1792 | .xm1856 | .xm1920 | .xm1984 | .xm2048 | .xm2112 | .xm2176 | .xm2240 | .xm2304 | .xm2368 |
    .xm2432 | .xm2496 | .xm2560 =>
    [.codeWord .white true, .codeWord .white false, .codeWord .black true, .codeWord .black false]
  | .eol => [.codeWord .white true, .codeWord .black true]
  | .runRle8 _ _ | .absRle8 _ => [.rle .rle8]
  | .runRle4 _ _ | .absRle4 _ => [.rle .rle4]
  | .runRle24 _ _ | .absRle24 _ => [.rle .rle24]
  | .rleEol | .eob | .delta => [.rle .rle8, .rle .rle4, .rle .rle24]

/-! ## The assembler's notation (30_encoding.md R119, R121) -/

/-- The instruction of a table's row with the given run. -/
def rowInstr (rows : List T4Row) (run : Nat) : List Instr :=
  ((rows.filter fun r => r.run == run).map fun r => r.instr)

/-- The end of `RUN_c(n)` for n below 2624: a make-up code from 64 on, then a terminal code (R121). -/
def expandTail (c : Color) (n : Nat) : List Instr :=
  (if 64 ≤ n then rowInstr (treeRows c) (64 * (n / 64)) else []) ++ rowInstr (treeRows c) (n % 64)

/-- `RUN_c(n)` with a bound on the number of leading `XM2560` (R121). -/
def expandRunUpTo (c : Color) : Nat → Nat → List Instr
  | 0, n => expandTail c n
  | k + 1, n => if 2624 ≤ n then .xm2560 :: expandRunUpTo c k (n - 2560) else expandTail c n

/-- The pseudo-instructions `WRUN n` and `BRUN n` (R121). -/
def expandRun (c : Color) (n : Nat) : List Instr := expandRunUpTo c (n / 2560) n

/-- The bits of a stream of code words (R119). -/
def streamBits (is : List Instr) : List Bool :=
  is.flatMap fun i => match encode i with
    | .bits bs => bs
    | _ => []

end Sys2Proof
end

