-- ==== Sys2Proof/Machine/BitBuffer.lean ====
section
/-! DEFINITION. The primitives of the G3 engine (40_g3_huffman.md R131 to R149) and what each class of code word does. -/

namespace Sys2Proof.Machine

/-! ## The bit buffer -/

/-- One turn of the loop of `refill()` (R132). -/
def refillByte (s : State) : State :=
  if s.g3Bits.toNat ≤ 24 ∧ s.inPos.toNat < s.inLen.toNat then
    match fetchByte s with
    | none => s
    | some (b, t) =>
      { t with
        g3Buf := s.g3Buf ||| (b.setWidth 32 <<< (24 - s.g3Bits.toNat))
        g3Bits := BitVec.ofNat 6 (s.g3Bits.toNat + 8) }
  else s

/-- `refill()` (R132). At most four bytes fit before more than 24 bits are held, so four turns are the whole loop. -/
def refill (s : State) : State := refillByte (refillByte (refillByte (refillByte s)))

/-- `consume(k)` (R133). -/
def consume (k : Nat) (s : State) : State :=
  { s with g3Buf := s.g3Buf <<< k, g3Bits := BitVec.ofNat 6 (s.g3Bits.toNat - k) }

/-- Dropping the buffered bits (R131, R139). -/
def emptyBuffer (s : State) : State := { s with g3Buf := 0, g3Bits := 0 }

/-- The EOL test on the state's buffer (R135). -/
def State.atEol (s : State) : Bool := Sys2Proof.atEol s.g3Buf s.g3Bits.toNat

/-- `scan_eol()` (R139) in at most `n` turns: the state and whether an EOL was found. -/
def scanEolUpTo : Nat → State → State × Bool
  | 0, s => (emptyBuffer s, false)
  | n + 1, s =>
    if (refill s).g3Bits.toNat < 12 then (emptyBuffer (refill s), false)
    else if (refill s).atEol then (consume 12 (refill s), true)
    else scanEolUpTo n (consume 1 (refill s))

/-- `scan_eol()` (R139): each turn but the last consumes one bit, so the bits left bound the turns (70_reset_and_hazards.md
R562). -/
def scanEol (s : State) : State × Bool := scanEolUpTo (bitsLeft s + 1) s

/-! ## Runs -/

/-- `sat_add` (R158). -/
def satAdd (a b : Nat) : Nat := min (a + b) 2147483647

/-- `1 - color` (R140). -/
def otherColor : Color → Color
  | .white => .black
  | .black => .white

/-- `value(color)` (R141): the base level for white and its complement for black, exchanged by `BLACK_IS_ZERO`. With the
spec's base 0 this is 0 for white and 255 for black (log 5). -/
def pixelLevel (s : State) (c : Color) : Byte :=
  if (decide (c = .black)) != s.blackIsZero then ~~~s.cfg.whiteBase else s.cfg.whiteBase

/-- Writing `n` bytes `v` from address `a` of `LB` on (R140). -/
def fillLine (a n : Nat) (v : Byte) (m : Memory) : Memory := forUpTo n (fun k m' => m'.write (a + k) v) m

/-- How many pixels a run of length `acc` fills: a run is cut at the line's end (R142). -/
def fillCount (s : State) (acc : Nat) : Nat := min acc (s.g3Width.toNat - s.g3X.toNat)

/-- The end of a run of length `acc` in a colour (R140, R144): fill, advance `G3_X`, toggle the colour, `acc` 0. -/
def endRun (c : Color) (acc : Nat) (s : State) : State :=
  { s with
    lb := fillLine s.g3X.toNat (fillCount s acc) (pixelLevel s c) s.lb
    g3X := BitVec.ofNat 32 (s.g3X.toNat + fillCount s acc)
    run := .g3 { color := otherColor c, acc := 0, midRun := false } }

/-! ## The classes of code words -/

/-- A terminal code of `len` bits and run `n` in the tree of colour `c` (R144). -/
def terminalCode (c : Color) (len n : Nat) (s : State) : Host.Outcome State Fault Refusal :=
  match s.run with
  | .g3 r => if r.color = c then .next (endRun c (satAdd r.acc n) (consume len s)) else .refused .notRecognisedHere
  | .idle => .refused .outsideCommand
  | .rle => .refused .outsideCommand

/-- A make-up code of `len` bits and run `n` (R145): the run goes on. -/
def makeup (len n : Nat) (r : G3Run) (s : State) : State :=
  { consume len s with run := .g3 { color := r.color, acc := satAdd r.acc n, midRun := true } }

/-- A make-up code of one tree (R145). -/
def makeupCode (c : Color) (len n : Nat) (s : State) : Host.Outcome State Fault Refusal :=
  match s.run with
  | .g3 r => if r.color = c then .next (makeup len n r s) else .refused .notRecognisedHere
  | .idle => .refused .outsideCommand
  | .rle => .refused .outsideCommand

/-- A shared make-up code, in both trees (R146). -/
def sharedCode (len n : Nat) (s : State) : Host.Outcome State Fault Refusal :=
  match s.run with
  | .g3 r => .next (makeup len n r s)
  | .idle => .refused .outsideCommand
  | .rle => .refused .outsideCommand

/-- EOL at the start of a run (R147): skipped at line start (R143), else it ends the line early. -/
def eolCode (s : State) : Host.Outcome State Fault Refusal :=
  match s.run with
  | .g3 r =>
    if r.midRun then .refused .notRecognisedHere
    else if s.g3X = 0 then .next (consume 12 s)
    else .next (halt .ok earlyFlags (consume 12 s))
  | .idle => .refused .outsideCommand
  | .rle => .refused .outsideCommand

/-- An unrecognised code (R148): scan for the next EOL and abort the line. -/
def abortLine (s : State) : State :=
  match scanEol s with
  | (t, true) => halt .ok badFlags t
  | (t, false) => halt .truncated badFlags t

end Sys2Proof.Machine
end

