-- ==== Sys2Proof/Machine/G3Black.lean ====
section
/-! DEFINITION. The black and the shared code words and EOL (42_g3_codes_black_shared.md R300 to R404): length and run of each over
the class rules (40_g3_huffman.md R144 to R147). -/

namespace Sys2Proof.Machine

/-- `BT0` (R300). -/
def execBt0 (s : State) : Host.Outcome State Fault Refusal := terminalCode .black 10 0 s

/-- `BT1` (R301). -/
def execBt1 (s : State) : Host.Outcome State Fault Refusal := terminalCode .black 3 1 s

/-- `BT2` (R302). -/
def execBt2 (s : State) : Host.Outcome State Fault Refusal := terminalCode .black 2 2 s

/-- `BT3` (R303). -/
def execBt3 (s : State) : Host.Outcome State Fault Refusal := terminalCode .black 2 3 s

/-- `BT4` (R304). -/
def execBt4 (s : State) : Host.Outcome State Fault Refusal := terminalCode .black 3 4 s

/-- `BT5` (R305). -/
def execBt5 (s : State) : Host.Outcome State Fault Refusal := terminalCode .black 4 5 s

/-- `BT6` (R306). -/
def execBt6 (s : State) : Host.Outcome State Fault Refusal := terminalCode .black 4 6 s

/-- `BT7` (R307). -/
def execBt7 (s : State) : Host.Outcome State Fault Refusal := terminalCode .black 5 7 s

/-- `BT8` (R308). -/
def execBt8 (s : State) : Host.Outcome State Fault Refusal := terminalCode .black 6 8 s

/-- `BT9` (R309). -/
def execBt9 (s : State) : Host.Outcome State Fault Refusal := terminalCode .black 6 9 s

/-- `BT10` (R310). -/
def execBt10 (s : State) : Host.Outcome State Fault Refusal := terminalCode .black 7 10 s

/-- `BT11` (R311). -/
def execBt11 (s : State) : Host.Outcome State Fault Refusal := terminalCode .black 7 11 s

/-- `BT12` (R312). -/
def execBt12 (s : State) : Host.Outcome State Fault Refusal := terminalCode .black 7 12 s

/-- `BT13` (R313). -/
def execBt13 (s : State) : Host.Outcome State Fault Refusal := terminalCode .black 8 13 s

/-- `BT14` (R314). -/
def execBt14 (s : State) : Host.Outcome State Fault Refusal := terminalCode .black 8 14 s

/-- `BT15` (R315). -/
def execBt15 (s : State) : Host.Outcome State Fault Refusal := terminalCode .black 9 15 s

/-- `BT16` (R316). -/
def execBt16 (s : State) : Host.Outcome State Fault Refusal := terminalCode .black 10 16 s

/-- `BT17` (R317). -/
def execBt17 (s : State) : Host.Outcome State Fault Refusal := terminalCode .black 10 17 s

/-- `BT18` (R318). -/
def execBt18 (s : State) : Host.Outcome State Fault Refusal := terminalCode .black 10 18 s

/-- `BT19` (R319). -/
def execBt19 (s : State) : Host.Outcome State Fault Refusal := terminalCode .black 11 19 s

/-- `BT20` (R320). -/
def execBt20 (s : State) : Host.Outcome State Fault Refusal := terminalCode .black 11 20 s

/-- `BT21` (R321). -/
def execBt21 (s : State) : Host.Outcome State Fault Refusal := terminalCode .black 11 21 s

/-- `BT22` (R322). -/
def execBt22 (s : State) : Host.Outcome State Fault Refusal := terminalCode .black 11 22 s

/-- `BT23` (R323). -/
def execBt23 (s : State) : Host.Outcome State Fault Refusal := terminalCode .black 11 23 s

/-- `BT24` (R324). -/
def execBt24 (s : State) : Host.Outcome State Fault Refusal := terminalCode .black 11 24 s

/-- `BT25` (R325). -/
def execBt25 (s : State) : Host.Outcome State Fault Refusal := terminalCode .black 11 25 s

/-- `BT26` (R326). -/
def execBt26 (s : State) : Host.Outcome State Fault Refusal := terminalCode .black 12 26 s

/-- `BT27` (R327). -/
def execBt27 (s : State) : Host.Outcome State Fault Refusal := terminalCode .black 12 27 s

/-- `BT28` (R328). -/
def execBt28 (s : State) : Host.Outcome State Fault Refusal := terminalCode .black 12 28 s

/-- `BT29` (R329). -/
def execBt29 (s : State) : Host.Outcome State Fault Refusal := terminalCode .black 12 29 s

/-- `BT30` (R330). -/
def execBt30 (s : State) : Host.Outcome State Fault Refusal := terminalCode .black 12 30 s

/-- `BT31` (R331). -/
def execBt31 (s : State) : Host.Outcome State Fault Refusal := terminalCode .black 12 31 s

/-- `BT32` (R332). -/
def execBt32 (s : State) : Host.Outcome State Fault Refusal := terminalCode .black 12 32 s

/-- `BT33` (R333). -/
def execBt33 (s : State) : Host.Outcome State Fault Refusal := terminalCode .black 12 33 s

/-- `BT34` (R334). -/
def execBt34 (s : State) : Host.Outcome State Fault Refusal := terminalCode .black 12 34 s

/-- `BT35` (R335). -/
def execBt35 (s : State) : Host.Outcome State Fault Refusal := terminalCode .black 12 35 s

/-- `BT36` (R336). -/
def execBt36 (s : State) : Host.Outcome State Fault Refusal := terminalCode .black 12 36 s

/-- `BT37` (R337). -/
def execBt37 (s : State) : Host.Outcome State Fault Refusal := terminalCode .black 12 37 s

/-- `BT38` (R338). -/
def execBt38 (s : State) : Host.Outcome State Fault Refusal := terminalCode .black 12 38 s

/-- `BT39` (R339). -/
def execBt39 (s : State) : Host.Outcome State Fault Refusal := terminalCode .black 12 39 s

/-- `BT40` (R340). -/
def execBt40 (s : State) : Host.Outcome State Fault Refusal := terminalCode .black 12 40 s

/-- `BT41` (R341). -/
def execBt41 (s : State) : Host.Outcome State Fault Refusal := terminalCode .black 12 41 s

/-- `BT42` (R342). -/
def execBt42 (s : State) : Host.Outcome State Fault Refusal := terminalCode .black 12 42 s

/-- `BT43` (R343). -/
def execBt43 (s : State) : Host.Outcome State Fault Refusal := terminalCode .black 12 43 s

/-- `BT44` (R344). -/
def execBt44 (s : State) : Host.Outcome State Fault Refusal := terminalCode .black 12 44 s

/-- `BT45` (R345). -/
def execBt45 (s : State) : Host.Outcome State Fault Refusal := terminalCode .black 12 45 s

/-- `BT46` (R346). -/
def execBt46 (s : State) : Host.Outcome State Fault Refusal := terminalCode .black 12 46 s

/-- `BT47` (R347). -/
def execBt47 (s : State) : Host.Outcome State Fault Refusal := terminalCode .black 12 47 s

/-- `BT48` (R348). -/
def execBt48 (s : State) : Host.Outcome State Fault Refusal := terminalCode .black 12 48 s

/-- `BT49` (R349). -/
def execBt49 (s : State) : Host.Outcome State Fault Refusal := terminalCode .black 12 49 s

/-- `BT50` (R350). -/
def execBt50 (s : State) : Host.Outcome State Fault Refusal := terminalCode .black 12 50 s

/-- `BT51` (R351). -/
def execBt51 (s : State) : Host.Outcome State Fault Refusal := terminalCode .black 12 51 s

/-- `BT52` (R352). -/
def execBt52 (s : State) : Host.Outcome State Fault Refusal := terminalCode .black 12 52 s

/-- `BT53` (R353). -/
def execBt53 (s : State) : Host.Outcome State Fault Refusal := terminalCode .black 12 53 s

/-- `BT54` (R354). -/
def execBt54 (s : State) : Host.Outcome State Fault Refusal := terminalCode .black 12 54 s

/-- `BT55` (R355). -/
def execBt55 (s : State) : Host.Outcome State Fault Refusal := terminalCode .black 12 55 s

/-- `BT56` (R356). -/
def execBt56 (s : State) : Host.Outcome State Fault Refusal := terminalCode .black 12 56 s

/-- `BT57` (R357). -/
def execBt57 (s : State) : Host.Outcome State Fault Refusal := terminalCode .black 12 57 s

/-- `BT58` (R358). -/
def execBt58 (s : State) : Host.Outcome State Fault Refusal := terminalCode .black 12 58 s

/-- `BT59` (R359). -/
def execBt59 (s : State) : Host.Outcome State Fault Refusal := terminalCode .black 12 59 s

/-- `BT60` (R360). -/
def execBt60 (s : State) : Host.Outcome State Fault Refusal := terminalCode .black 12 60 s

/-- `BT61` (R361). -/
def execBt61 (s : State) : Host.Outcome State Fault Refusal := terminalCode .black 12 61 s

/-- `BT62` (R362). -/
def execBt62 (s : State) : Host.Outcome State Fault Refusal := terminalCode .black 12 62 s

/-- `BT63` (R363). -/
def execBt63 (s : State) : Host.Outcome State Fault Refusal := terminalCode .black 12 63 s

/-- `BM64` (R364). -/
def execBm64 (s : State) : Host.Outcome State Fault Refusal := makeupCode .black 10 64 s

/-- `BM128` (R365). -/
def execBm128 (s : State) : Host.Outcome State Fault Refusal := makeupCode .black 12 128 s

/-- `BM192` (R366). -/
def execBm192 (s : State) : Host.Outcome State Fault Refusal := makeupCode .black 12 192 s

/-- `BM256` (R367). -/
def execBm256 (s : State) : Host.Outcome State Fault Refusal := makeupCode .black 12 256 s

/-- `BM320` (R368). -/
def execBm320 (s : State) : Host.Outcome State Fault Refusal := makeupCode .black 12 320 s

/-- `BM384` (R369). -/
def execBm384 (s : State) : Host.Outcome State Fault Refusal := makeupCode .black 12 384 s

/-- `BM448` (R370). -/
def execBm448 (s : State) : Host.Outcome State Fault Refusal := makeupCode .black 12 448 s

/-- `BM512` (R371). -/
def execBm512 (s : State) : Host.Outcome State Fault Refusal := makeupCode .black 13 512 s

/-- `BM576` (R372). -/
def execBm576 (s : State) : Host.Outcome State Fault Refusal := makeupCode .black 13 576 s

/-- `BM640` (R373). -/
def execBm640 (s : State) : Host.Outcome State Fault Refusal := makeupCode .black 13 640 s

/-- `BM704` (R374). -/
def execBm704 (s : State) : Host.Outcome State Fault Refusal := makeupCode .black 13 704 s

/-- `BM768` (R375). -/
def execBm768 (s : State) : Host.Outcome State Fault Refusal := makeupCode .black 13 768 s

/-- `BM832` (R376). -/
def execBm832 (s : State) : Host.Outcome State Fault Refusal := makeupCode .black 13 832 s

/-- `BM896` (R377). -/
def execBm896 (s : State) : Host.Outcome State Fault Refusal := makeupCode .black 13 896 s

/-- `BM960` (R378). -/
def execBm960 (s : State) : Host.Outcome State Fault Refusal := makeupCode .black 13 960 s

/-- `BM1024` (R379). -/
def execBm1024 (s : State) : Host.Outcome State Fault Refusal := makeupCode .black 13 1024 s

/-- `BM1088` (R380). -/
def execBm1088 (s : State) : Host.Outcome State Fault Refusal := makeupCode .black 13 1088 s

/-- `BM1152` (R381). -/
def execBm1152 (s : State) : Host.Outcome State Fault Refusal := makeupCode .black 13 1152 s

/-- `BM1216` (R382). -/
def execBm1216 (s : State) : Host.Outcome State Fault Refusal := makeupCode .black 13 1216 s

/-- `BM1280` (R383). -/
def execBm1280 (s : State) : Host.Outcome State Fault Refusal := makeupCode .black 13 1280 s

/-- `BM1344` (R384). -/
def execBm1344 (s : State) : Host.Outcome State Fault Refusal := makeupCode .black 13 1344 s

/-- `BM1408` (R385). -/
def execBm1408 (s : State) : Host.Outcome State Fault Refusal := makeupCode .black 13 1408 s

/-- `BM1472` (R386). -/
def execBm1472 (s : State) : Host.Outcome State Fault Refusal := makeupCode .black 13 1472 s

/-- `BM1536` (R387). -/
def execBm1536 (s : State) : Host.Outcome State Fault Refusal := makeupCode .black 13 1536 s

/-- `BM1600` (R388). -/
def execBm1600 (s : State) : Host.Outcome State Fault Refusal := makeupCode .black 13 1600 s

/-- `BM1664` (R389). -/
def execBm1664 (s : State) : Host.Outcome State Fault Refusal := makeupCode .black 13 1664 s

/-- `BM1728` (R390). -/
def execBm1728 (s : State) : Host.Outcome State Fault Refusal := makeupCode .black 13 1728 s

/-- `XM1792` (R391). -/
def execXm1792 (s : State) : Host.Outcome State Fault Refusal := sharedCode 11 1792 s

/-- `XM1856` (R392). -/
def execXm1856 (s : State) : Host.Outcome State Fault Refusal := sharedCode 11 1856 s

/-- `XM1920` (R393). -/
def execXm1920 (s : State) : Host.Outcome State Fault Refusal := sharedCode 11 1920 s

/-- `XM1984` (R394). -/
def execXm1984 (s : State) : Host.Outcome State Fault Refusal := sharedCode 12 1984 s

/-- `XM2048` (R395). -/
def execXm2048 (s : State) : Host.Outcome State Fault Refusal := sharedCode 12 2048 s

/-- `XM2112` (R396). -/
def execXm2112 (s : State) : Host.Outcome State Fault Refusal := sharedCode 12 2112 s

/-- `XM2176` (R397). -/
def execXm2176 (s : State) : Host.Outcome State Fault Refusal := sharedCode 12 2176 s

/-- `XM2240` (R398). -/
def execXm2240 (s : State) : Host.Outcome State Fault Refusal := sharedCode 12 2240 s

/-- `XM2304` (R399). -/
def execXm2304 (s : State) : Host.Outcome State Fault Refusal := sharedCode 12 2304 s

/-- `XM2368` (R400). -/
def execXm2368 (s : State) : Host.Outcome State Fault Refusal := sharedCode 12 2368 s

/-- `XM2432` (R401). -/
def execXm2432 (s : State) : Host.Outcome State Fault Refusal := sharedCode 12 2432 s

/-- `XM2496` (R402). -/
def execXm2496 (s : State) : Host.Outcome State Fault Refusal := sharedCode 12 2496 s

/-- `XM2560` (R403). -/
def execXm2560 (s : State) : Host.Outcome State Fault Refusal := sharedCode 12 2560 s

/-- `EOL` (R404). -/
def execEol (s : State) : Host.Outcome State Fault Refusal := eolCode s

end Sys2Proof.Machine
end

