-- ==== Sys2Proof/Machine/G3White.lean ====
section
/-! DEFINITION. The white code words (41_g3_codes_white.md R200 to R290): length and run of each over the class rules
(40_g3_huffman.md R144, R145). -/

namespace Sys2Proof.Machine

/-- `WT0` (R200). -/
def execWt0 (s : State) : Host.Outcome State Fault Refusal := terminalCode .white 8 0 s

/-- `WT1` (R201). -/
def execWt1 (s : State) : Host.Outcome State Fault Refusal := terminalCode .white 6 1 s

/-- `WT2` (R202). -/
def execWt2 (s : State) : Host.Outcome State Fault Refusal := terminalCode .white 4 2 s

/-- `WT3` (R203). -/
def execWt3 (s : State) : Host.Outcome State Fault Refusal := terminalCode .white 4 3 s

/-- `WT4` (R204). -/
def execWt4 (s : State) : Host.Outcome State Fault Refusal := terminalCode .white 4 4 s

/-- `WT5` (R205). -/
def execWt5 (s : State) : Host.Outcome State Fault Refusal := terminalCode .white 4 5 s

/-- `WT6` (R206). -/
def execWt6 (s : State) : Host.Outcome State Fault Refusal := terminalCode .white 4 6 s

/-- `WT7` (R207). -/
def execWt7 (s : State) : Host.Outcome State Fault Refusal := terminalCode .white 4 7 s

/-- `WT8` (R208). -/
def execWt8 (s : State) : Host.Outcome State Fault Refusal := terminalCode .white 5 8 s

/-- `WT9` (R209). -/
def execWt9 (s : State) : Host.Outcome State Fault Refusal := terminalCode .white 5 9 s

/-- `WT10` (R210). -/
def execWt10 (s : State) : Host.Outcome State Fault Refusal := terminalCode .white 5 10 s

/-- `WT11` (R211). -/
def execWt11 (s : State) : Host.Outcome State Fault Refusal := terminalCode .white 5 11 s

/-- `WT12` (R212). -/
def execWt12 (s : State) : Host.Outcome State Fault Refusal := terminalCode .white 6 12 s

/-- `WT13` (R213). -/
def execWt13 (s : State) : Host.Outcome State Fault Refusal := terminalCode .white 6 13 s

/-- `WT14` (R214). -/
def execWt14 (s : State) : Host.Outcome State Fault Refusal := terminalCode .white 6 14 s

/-- `WT15` (R215). -/
def execWt15 (s : State) : Host.Outcome State Fault Refusal := terminalCode .white 6 15 s

/-- `WT16` (R216). -/
def execWt16 (s : State) : Host.Outcome State Fault Refusal := terminalCode .white 6 16 s

/-- `WT17` (R217). -/
def execWt17 (s : State) : Host.Outcome State Fault Refusal := terminalCode .white 6 17 s

/-- `WT18` (R218). -/
def execWt18 (s : State) : Host.Outcome State Fault Refusal := terminalCode .white 7 18 s

/-- `WT19` (R219). -/
def execWt19 (s : State) : Host.Outcome State Fault Refusal := terminalCode .white 7 19 s

/-- `WT20` (R220). -/
def execWt20 (s : State) : Host.Outcome State Fault Refusal := terminalCode .white 7 20 s

/-- `WT21` (R221). -/
def execWt21 (s : State) : Host.Outcome State Fault Refusal := terminalCode .white 7 21 s

/-- `WT22` (R222). -/
def execWt22 (s : State) : Host.Outcome State Fault Refusal := terminalCode .white 7 22 s

/-- `WT23` (R223). -/
def execWt23 (s : State) : Host.Outcome State Fault Refusal := terminalCode .white 7 23 s

/-- `WT24` (R224). -/
def execWt24 (s : State) : Host.Outcome State Fault Refusal := terminalCode .white 7 24 s

/-- `WT25` (R225). -/
def execWt25 (s : State) : Host.Outcome State Fault Refusal := terminalCode .white 7 25 s

/-- `WT26` (R226). -/
def execWt26 (s : State) : Host.Outcome State Fault Refusal := terminalCode .white 7 26 s

/-- `WT27` (R227). -/
def execWt27 (s : State) : Host.Outcome State Fault Refusal := terminalCode .white 7 27 s

/-- `WT28` (R228). -/
def execWt28 (s : State) : Host.Outcome State Fault Refusal := terminalCode .white 7 28 s

/-- `WT29` (R229). -/
def execWt29 (s : State) : Host.Outcome State Fault Refusal := terminalCode .white 8 29 s

/-- `WT30` (R230). -/
def execWt30 (s : State) : Host.Outcome State Fault Refusal := terminalCode .white 8 30 s

/-- `WT31` (R231). -/
def execWt31 (s : State) : Host.Outcome State Fault Refusal := terminalCode .white 8 31 s

/-- `WT32` (R232). -/
def execWt32 (s : State) : Host.Outcome State Fault Refusal := terminalCode .white 8 32 s

/-- `WT33` (R233). -/
def execWt33 (s : State) : Host.Outcome State Fault Refusal := terminalCode .white 8 33 s

/-- `WT34` (R234). -/
def execWt34 (s : State) : Host.Outcome State Fault Refusal := terminalCode .white 8 34 s

/-- `WT35` (R235). -/
def execWt35 (s : State) : Host.Outcome State Fault Refusal := terminalCode .white 8 35 s

/-- `WT36` (R236). -/
def execWt36 (s : State) : Host.Outcome State Fault Refusal := terminalCode .white 8 36 s

/-- `WT37` (R237). -/
def execWt37 (s : State) : Host.Outcome State Fault Refusal := terminalCode .white 8 37 s

/-- `WT38` (R238). -/
def execWt38 (s : State) : Host.Outcome State Fault Refusal := terminalCode .white 8 38 s

/-- `WT39` (R239). -/
def execWt39 (s : State) : Host.Outcome State Fault Refusal := terminalCode .white 8 39 s

/-- `WT40` (R240). -/
def execWt40 (s : State) : Host.Outcome State Fault Refusal := terminalCode .white 8 40 s

/-- `WT41` (R241). -/
def execWt41 (s : State) : Host.Outcome State Fault Refusal := terminalCode .white 8 41 s

/-- `WT42` (R242). -/
def execWt42 (s : State) : Host.Outcome State Fault Refusal := terminalCode .white 8 42 s

/-- `WT43` (R243). -/
def execWt43 (s : State) : Host.Outcome State Fault Refusal := terminalCode .white 8 43 s

/-- `WT44` (R244). -/
def execWt44 (s : State) : Host.Outcome State Fault Refusal := terminalCode .white 8 44 s

/-- `WT45` (R245). -/
def execWt45 (s : State) : Host.Outcome State Fault Refusal := terminalCode .white 8 45 s

/-- `WT46` (R246). -/
def execWt46 (s : State) : Host.Outcome State Fault Refusal := terminalCode .white 8 46 s

/-- `WT47` (R247). -/
def execWt47 (s : State) : Host.Outcome State Fault Refusal := terminalCode .white 8 47 s

/-- `WT48` (R248). -/
def execWt48 (s : State) : Host.Outcome State Fault Refusal := terminalCode .white 8 48 s

/-- `WT49` (R249). -/
def execWt49 (s : State) : Host.Outcome State Fault Refusal := terminalCode .white 8 49 s

/-- `WT50` (R250). -/
def execWt50 (s : State) : Host.Outcome State Fault Refusal := terminalCode .white 8 50 s

/-- `WT51` (R251). -/
def execWt51 (s : State) : Host.Outcome State Fault Refusal := terminalCode .white 8 51 s

/-- `WT52` (R252). -/
def execWt52 (s : State) : Host.Outcome State Fault Refusal := terminalCode .white 8 52 s

/-- `WT53` (R253). -/
def execWt53 (s : State) : Host.Outcome State Fault Refusal := terminalCode .white 8 53 s

/-- `WT54` (R254). -/
def execWt54 (s : State) : Host.Outcome State Fault Refusal := terminalCode .white 8 54 s

/-- `WT55` (R255). -/
def execWt55 (s : State) : Host.Outcome State Fault Refusal := terminalCode .white 8 55 s

/-- `WT56` (R256). -/
def execWt56 (s : State) : Host.Outcome State Fault Refusal := terminalCode .white 8 56 s

/-- `WT57` (R257). -/
def execWt57 (s : State) : Host.Outcome State Fault Refusal := terminalCode .white 8 57 s

/-- `WT58` (R258). -/
def execWt58 (s : State) : Host.Outcome State Fault Refusal := terminalCode .white 8 58 s

/-- `WT59` (R259). -/
def execWt59 (s : State) : Host.Outcome State Fault Refusal := terminalCode .white 8 59 s

/-- `WT60` (R260). -/
def execWt60 (s : State) : Host.Outcome State Fault Refusal := terminalCode .white 8 60 s

/-- `WT61` (R261). -/
def execWt61 (s : State) : Host.Outcome State Fault Refusal := terminalCode .white 8 61 s

/-- `WT62` (R262). -/
def execWt62 (s : State) : Host.Outcome State Fault Refusal := terminalCode .white 8 62 s

/-- `WT63` (R263). -/
def execWt63 (s : State) : Host.Outcome State Fault Refusal := terminalCode .white 8 63 s

/-- `WM64` (R264). -/
def execWm64 (s : State) : Host.Outcome State Fault Refusal := makeupCode .white 5 64 s

/-- `WM128` (R265). -/
def execWm128 (s : State) : Host.Outcome State Fault Refusal := makeupCode .white 5 128 s

/-- `WM192` (R266). -/
def execWm192 (s : State) : Host.Outcome State Fault Refusal := makeupCode .white 6 192 s

/-- `WM256` (R267). -/
def execWm256 (s : State) : Host.Outcome State Fault Refusal := makeupCode .white 7 256 s

/-- `WM320` (R268). -/
def execWm320 (s : State) : Host.Outcome State Fault Refusal := makeupCode .white 8 320 s

/-- `WM384` (R269). -/
def execWm384 (s : State) : Host.Outcome State Fault Refusal := makeupCode .white 8 384 s

/-- `WM448` (R270). -/
def execWm448 (s : State) : Host.Outcome State Fault Refusal := makeupCode .white 8 448 s

/-- `WM512` (R271). -/
def execWm512 (s : State) : Host.Outcome State Fault Refusal := makeupCode .white 8 512 s

/-- `WM576` (R272). -/
def execWm576 (s : State) : Host.Outcome State Fault Refusal := makeupCode .white 8 576 s

/-- `WM640` (R273). -/
def execWm640 (s : State) : Host.Outcome State Fault Refusal := makeupCode .white 8 640 s

/-- `WM704` (R274). -/
def execWm704 (s : State) : Host.Outcome State Fault Refusal := makeupCode .white 9 704 s

/-- `WM768` (R275). -/
def execWm768 (s : State) : Host.Outcome State Fault Refusal := makeupCode .white 9 768 s

/-- `WM832` (R276). -/
def execWm832 (s : State) : Host.Outcome State Fault Refusal := makeupCode .white 9 832 s

/-- `WM896` (R277). -/
def execWm896 (s : State) : Host.Outcome State Fault Refusal := makeupCode .white 9 896 s

/-- `WM960` (R278). -/
def execWm960 (s : State) : Host.Outcome State Fault Refusal := makeupCode .white 9 960 s

/-- `WM1024` (R279). -/
def execWm1024 (s : State) : Host.Outcome State Fault Refusal := makeupCode .white 9 1024 s

/-- `WM1088` (R280). -/
def execWm1088 (s : State) : Host.Outcome State Fault Refusal := makeupCode .white 9 1088 s

/-- `WM1152` (R281). -/
def execWm1152 (s : State) : Host.Outcome State Fault Refusal := makeupCode .white 9 1152 s

/-- `WM1216` (R282). -/
def execWm1216 (s : State) : Host.Outcome State Fault Refusal := makeupCode .white 9 1216 s

/-- `WM1280` (R283). -/
def execWm1280 (s : State) : Host.Outcome State Fault Refusal := makeupCode .white 9 1280 s

/-- `WM1344` (R284). -/
def execWm1344 (s : State) : Host.Outcome State Fault Refusal := makeupCode .white 9 1344 s

/-- `WM1408` (R285). -/
def execWm1408 (s : State) : Host.Outcome State Fault Refusal := makeupCode .white 9 1408 s

/-- `WM1472` (R286). -/
def execWm1472 (s : State) : Host.Outcome State Fault Refusal := makeupCode .white 9 1472 s

/-- `WM1536` (R287). -/
def execWm1536 (s : State) : Host.Outcome State Fault Refusal := makeupCode .white 9 1536 s

/-- `WM1600` (R288). -/
def execWm1600 (s : State) : Host.Outcome State Fault Refusal := makeupCode .white 9 1600 s

/-- `WM1664` (R289). -/
def execWm1664 (s : State) : Host.Outcome State Fault Refusal := makeupCode .white 6 1664 s

/-- `WM1728` (R290). -/
def execWm1728 (s : State) : Host.Outcome State Fault Refusal := makeupCode .white 9 1728 s

end Sys2Proof.Machine
end

