-- ==== Sys2Proof/Machine/Rle.lean ====
section
/-! DEFINITION. The RLE engine's shared operations and the meanings of its stream commands (43_rle.md R422 to R438). -/

namespace Sys2Proof.Machine

/-! ## Shared operations -/

/-- `put(c)` (R423): a pixel outside the frame is dropped; the cursor stops at `IMG_W`. -/
def put (p : Pixel) (s : State) : State :=
  { s with
    fb :=
      if s.rleX.toNat < s.imgW.toNat ∧ s.rleY.toNat < s.imgH.toNat then
        s.fb.writePixel (pixelAddr s.imgW.toNat s.rleX.toNat (destY s.rleBottomUp s.imgH.toNat s.rleY.toNat)) p
      else s.fb
    rleX := BitVec.ofNat 32 (min (s.rleX.toNat + 1) s.imgW.toNat) }

/-- `repeat n times: put(c)` (R425, R427). -/
def putRepeat (n : Nat) (p : Pixel) (s : State) : State := forUpTo n (fun _ t => put p t) s

/-- The high nibble of an index byte (30_encoding.md R102). -/
def highNibble (v : Byte) : Byte := v >>> 4

/-- The low nibble of an index byte (30_encoding.md R102). -/
def lowNibble (v : Byte) : Byte := v &&& 0x0F

/-- An RLE4 encoded run: high nibble first, alternating (R426). -/
def putNibbles (n : Nat) (v : Byte) (s : State) : State :=
  forUpTo n (fun k t => put (palette t (if k % 2 = 0 then highNibble v else lowNibble v)) t) s

/-- `finish(c)` of `RLE.DECODE` (R424, R436). -/
def finishRle (c : ResultCode) (s : State) : State := halt c (alphaFlags (!s.rleLeave)) s

/-- An RLE24 pixel from its stream bytes B, G, R (R427, R433). -/
def rgbPixel (b g r : Byte) : Pixel := { r := r, g := g, b := b, a := 255 }

/-- Reading part of a payload: `ok` with the state to go on from, or `error` with the state at the end of the stream. -/
abbrev Payload := Except State State

/-- The literals of an RLE8 absolute run (R431). -/
def literals8 : Nat → State → Payload
  | 0, s => .ok s
  | n + 1, s =>
    match fetchByte s with
    | none => .error s
    | some (i, t) => literals8 n (put (palette t i) t)

/-- The literals of an RLE4 absolute run, two to a byte, high nibble first (R432). -/
def literals4 : Nat → State → Payload
  | 0, s => .ok s
  | 1, s =>
    match fetchByte s with
    | none => .error s
    | some (p, t) => .ok (put (palette t (highNibble p)) t)
  | n + 2, s =>
    match fetchByte s with
    | none => .error s
    | some (p, t) =>
      literals4 n (put (palette t (lowNibble p)) (put (palette t (highNibble p)) t))

/-- Three stream bytes, in order; what was fetched stays consumed (20_memory.md R65). -/
def fetchTriplet (s : State) : Except State ((Byte × Byte × Byte) × State) :=
  match fetchByte s with
  | none => .error s
  | some (b, s1) =>
    match fetchByte s1 with
    | none => .error s1
    | some (g, s2) =>
      match fetchByte s2 with
      | none => .error s2
      | some (r, s3) => .ok ((b, g, r), s3)

/-- The literals of an RLE24 absolute run (R433). -/
def literals24 : Nat → State → Payload
  | 0, s => .ok s
  | n + 1, s =>
    match fetchTriplet s with
    | .error t => .error t
    | .ok ((b, g, r), t) => literals24 n (put (rgbPixel b g r) t)

/-- The pad byte of an absolute run, if its byte count is odd; its value is ignored (R431 to R433). -/
def padByte (odd : Bool) (s : State) : Payload :=
  if odd then
    match fetchByte s with
    | none => .error s
    | some (_, t) => .ok t
  else .ok s

/-- A command's payload has been read, or the end of the stream ends the decode (R424, R434). -/
def afterPayload (p : Payload) : State :=
  match p with
  | .ok s => s
  | .error s => finishRle .truncated s

/-- The literals of an absolute run followed by its pad (R431 to R433). -/
def thenPad (odd : Bool) (p : Payload) : Payload :=
  match p with
  | .ok s => padByte odd s
  | .error s => .error s

/-- A stream command of the given mode, inside `RLE.DECODE` (R424, R438). -/
def inRleMode (m : RleMode) (s : State) (k : State → State) : Host.Outcome State Fault Refusal :=
  match s.run with
  | .rle => if s.rleMode = some m then .next (k s) else .refused .notRecognisedHere
  | .idle => .refused .outsideCommand
  | .g3 _ => .refused .outsideCommand

/-- A stream command of every mode, inside `RLE.DECODE` (R424, R438). -/
def inRle (s : State) (k : State → State) : Host.Outcome State Fault Refusal :=
  match s.run with
  | .rle => .next (k s)
  | .idle => .refused .outsideCommand
  | .g3 _ => .refused .outsideCommand

/-- `x <- min(x + dx, IMG_W); y <- min(y + dy, IMG_H)` (R430). -/
def moveCursor (dx dy : Nat) (s : State) : State :=
  { s with
    rleX := BitVec.ofNat 32 (min (s.rleX.toNat + dx) s.imgW.toNat)
    rleY := BitVec.ofNat 32 (min (s.rleY.toNat + dy) s.imgH.toNat) }

/-! ## The stream commands -/

/-- `RUN` in RLE8 (R425): n pixels of palette entry v. -/
def runRle8 (n v : Byte) (s : State) : State := putRepeat n.toNat (palette s v) s

/-- `RUN` in RLE4 (R426). -/
def runRle4 (n v : Byte) (s : State) : State := putNibbles n.toNat v s

/-- `RUN` in RLE24 (R427): the head's second byte is blue; green and red follow. Nothing of the run is written if the triplet
is cut. -/
def runRle24 (n b : Byte) (s : State) : State :=
  match fetchByte s with
  | none => finishRle .truncated s
  | some (g, s1) =>
    match fetchByte s1 with
    | none => finishRle .truncated s1
    | some (r, s2) => putRepeat n.toNat (rgbPixel b g r) s2

/-- `ABS` in RLE8 (R431). -/
def absRle8 (n : Byte) (s : State) : State :=
  afterPayload (thenPad (decide (n.toNat % 2 = 1)) (literals8 n.toNat s))

/-- `ABS` in RLE4 (R432): the count of literal bytes, (n + 1) div 2, decides the pad. -/
def absRle4 (n : Byte) (s : State) : State :=
  afterPayload (thenPad (decide ((n.toNat + 1) / 2 % 2 = 1)) (literals4 n.toNat s))

/-- `ABS` in RLE24 (R433): 3n is odd exactly when n is. -/
def absRle24 (n : Byte) (s : State) : State :=
  afterPayload (thenPad (decide (n.toNat % 2 = 1)) (literals24 n.toNat s))

/-- `EOL` (R428). -/
def rleEndOfLine (s : State) : State :=
  { s with rleX := 0, rleY := BitVec.ofNat 32 (min (s.rleY.toNat + 1) s.imgH.toNat) }

/-- `DELTA` (R430): the cursor moves only when both bytes are there. -/
def rleDelta (s : State) : State :=
  match fetchByte s with
  | none => finishRle .truncated s
  | some (dx, s1) =>
    match fetchByte s1 with
    | none => finishRle .truncated s1
    | some (dy, s2) => moveCursor dx.toNat dy.toNat s2

/-- `RUN.RLE8` (R425). -/
def execRunRle8 (n v : Byte) (s : State) : Host.Outcome State Fault Refusal := inRleMode .rle8 s (runRle8 n v)

/-- `RUN.RLE4` (R426). -/
def execRunRle4 (n v : Byte) (s : State) : Host.Outcome State Fault Refusal := inRleMode .rle4 s (runRle4 n v)

/-- `RUN.RLE24` (R427). -/
def execRunRle24 (n b : Byte) (s : State) : Host.Outcome State Fault Refusal := inRleMode .rle24 s (runRle24 n b)

/-- `ABS.RLE8` (R431). -/
def execAbsRle8 (n : Byte) (s : State) : Host.Outcome State Fault Refusal := inRleMode .rle8 s (absRle8 n)

/-- `ABS.RLE4` (R432). -/
def execAbsRle4 (n : Byte) (s : State) : Host.Outcome State Fault Refusal := inRleMode .rle4 s (absRle4 n)

/-- `ABS.RLE24` (R433). -/
def execAbsRle24 (n : Byte) (s : State) : Host.Outcome State Fault Refusal := inRleMode .rle24 s (absRle24 n)

/-- `RLE.EOL` (R428). -/
def execRleEol (s : State) : Host.Outcome State Fault Refusal := inRle s rleEndOfLine

/-- `EOB` (R429). -/
def execEob (s : State) : Host.Outcome State Fault Refusal := inRle s (finishRle .ok)

/-- `DELTA` (R430). -/
def execDelta (s : State) : Host.Outcome State Fault Refusal := inRle s rleDelta

end Sys2Proof.Machine
end

