-- ==== Sys2Proof/Machine/Tokens.lean ====
section
/-! DEFINITION. What the machine does next, and the run of a command over its stream (40_g3_huffman.md R140, 43_rle.md R424,
20_memory.md R80). -/

namespace Sys2Proof.Machine

/-- What a step finds: an instruction to run and the state it runs on, or a state reached without an instruction (a test of
a command's loop, an access of the host), or a fault. -/
inductive Fetched where
  | instr (i : Instr) (s : State)
  | done (s : State)
  | fault (f : Fault)
  deriving DecidableEq, Repr

/-- The next code word of a line, after `refill()` (R140): an unrecognised one takes the abort path (R148), one cut by the end
of the stream ends the line (R149). -/
def nextCode (r : G3Run) (s : State) : Fetched :=
  match decodeG3 r.color (!r.midRun) s.g3Buf s.g3Bits.toNat with
  | .ok (i, _) => .instr i s
  | .error .codeCutShort => .done (raise .truncated s)
  | .error .illegalCommand => .done (abortLine s)
  | .error .unrecognisedCode => .done (abortLine s)
  | .error .wrongForm => .done (abortLine s)

/-- The loop of `G3.LINE` (R140): between make-up codes only a refill; at the start of a run the line-complete test, the
refill, the end-of-stream test and `acc <- 0`. -/
def fetchG3 (r : G3Run) (s : State) : Fetched :=
  if r.midRun then nextCode r (refill s)
  else if s.g3Width.toNat ≤ s.g3X.toNat then .done (raise .ok s)
  else if (refill s).g3Bits.toNat = 0 then .done (raise .truncated (refill s))
  else nextCode { r with acc := 0 } { refill s with run := .g3 { r with acc := 0 } }

/-- The loop of `RLE.DECODE` (43_rle.md R424): the rows test, then two head bytes. -/
def fetchRle (s : State) : Fetched :=
  if s.imgH.toNat ≤ s.rleY.toNat then .done (finishRle .rowsDone s)
  else
    match s.rleMode with
    | none => .done (raise .errParam s)
    | some m =>
      match fetchByte s with
      | none => .done (finishRle .truncated s)
      | some (a, s1) =>
        match fetchByte s1 with
        | none => .done (finishRle .truncated s1)
        | some (b, s2) => .instr (decodeRle m a b) s2

/-- The next item of the command in progress. -/
def fetchToken (s : State) : Fetched :=
  match s.run with
  | .idle => .done s
  | .g3 r => fetchG3 r s
  | .rle => fetchRle s

/-- The meaning of a stream token. A command is no token. -/
def execToken (i : Instr) (s : State) : Host.Outcome State Fault Refusal :=
  match i with
  | .wt0 => execWt0 s
  | .wt1 => execWt1 s
  | .wt2 => execWt2 s
  | .wt3 => execWt3 s
  | .wt4 => execWt4 s
  | .wt5 => execWt5 s
  | .wt6 => execWt6 s
  | .wt7 => execWt7 s
  | .wt8 => execWt8 s
  | .wt9 => execWt9 s
  | .wt10 => execWt10 s
  | .wt11 => execWt11 s
  | .wt12 => execWt12 s
  | .wt13 => execWt13 s
  | .wt14 => execWt14 s
  | .wt15 => execWt15 s
  | .wt16 => execWt16 s
  | .wt17 => execWt17 s
  | .wt18 => execWt18 s
  | .wt19 => execWt19 s
  | .wt20 => execWt20 s
  | .wt21 => execWt21 s
  | .wt22 => execWt22 s
  | .wt23 => execWt23 s
  | .wt24 => execWt24 s
  | .wt25 => execWt25 s
  | .wt26 => execWt26 s
  | .wt27 => execWt27 s
  | .wt28 => execWt28 s
  | .wt29 => execWt29 s
  | .wt30 => execWt30 s
  | .wt31 => execWt31 s
  | .wt32 => execWt32 s
  | .wt33 => execWt33 s
  | .wt34 => execWt34 s
  | .wt35 => execWt35 s
  | .wt36 => execWt36 s
  | .wt37 => execWt37 s
  | .wt38 => execWt38 s
  | .wt39 => execWt39 s
  | .wt40 => execWt40 s
  | .wt41 => execWt41 s
  | .wt42 => execWt42 s
  | .wt43 => execWt43 s
  | .wt44 => execWt44 s
  | .wt45 => execWt45 s
  | .wt46 => execWt46 s
  | .wt47 => execWt47 s
  | .wt48 => execWt48 s
  | .wt49 => execWt49 s
  | .wt50 => execWt50 s
  | .wt51 => execWt51 s
  | .wt52 => execWt52 s
  | .wt53 => execWt53 s
  | .wt54 => execWt54 s
  | .wt55 => execWt55 s
  | .wt56 => execWt56 s
  | .wt57 => execWt57 s
  | .wt58 => execWt58 s
  | .wt59 => execWt59 s
  | .wt60 => execWt60 s
  | .wt61 => execWt61 s
  | .wt62 => execWt62 s
  | .wt63 => execWt63 s
  | .wm64 => execWm64 s
  | .wm128 => execWm128 s
  | .wm192 => execWm192 s
  | .wm256 => execWm256 s
  | .wm320 => execWm320 s
  | .wm384 => execWm384 s
  | .wm448 => execWm448 s
  | .wm512 => execWm512 s
  | .wm576 => execWm576 s
  | .wm640 => execWm640 s
  | .wm704 => execWm704 s
  | .wm768 => execWm768 s
  | .wm832 => execWm832 s
  | .wm896 => execWm896 s
  | .wm960 => execWm960 s
  | .wm1024 => execWm1024 s
  | .wm1088 => execWm1088 s
  | .wm1152 => execWm1152 s
  | .wm1216 => execWm1216 s
  | .wm1280 => execWm1280 s
  | .wm1344 => execWm1344 s
  | .wm1408 => execWm1408 s
  | .wm1472 => execWm1472 s
  | .wm1536 => execWm1536 s
  | .wm1600 => execWm1600 s
  | .wm1664 => execWm1664 s
  | .wm1728 => execWm1728 s
  | .bt0 => execBt0 s
  | .bt1 => execBt1 s
  | .bt2 => execBt2 s
  | .bt3 => execBt3 s
  | .bt4 => execBt4 s
  | .bt5 => execBt5 s
  | .bt6 => execBt6 s
  | .bt7 => execBt7 s
  | .bt8 => execBt8 s
  | .bt9 => execBt9 s
  | .bt10 => execBt10 s
  | .bt11 => execBt11 s
  | .bt12 => execBt12 s
  | .bt13 => execBt13 s
  | .bt14 => execBt14 s
  | .bt15 => execBt15 s
  | .bt16 => execBt16 s
  | .bt17 => execBt17 s
  | .bt18 => execBt18 s
  | .bt19 => execBt19 s
  | .bt20 => execBt20 s
  | .bt21 => execBt21 s
  | .bt22 => execBt22 s
  | .bt23 => execBt23 s
  | .bt24 => execBt24 s
  | .bt25 => execBt25 s
  | .bt26 => execBt26 s
  | .bt27 => execBt27 s
  | .bt28 => execBt28 s
  | .bt29 => execBt29 s
  | .bt30 => execBt30 s
  | .bt31 => execBt31 s
  | .bt32 => execBt32 s
  | .bt33 => execBt33 s
  | .bt34 => execBt34 s
  | .bt35 => execBt35 s
  | .bt36 => execBt36 s
  | .bt37 => execBt37 s
  | .bt38 => execBt38 s
  | .bt39 => execBt39 s
  | .bt40 => execBt40 s
  | .bt41 => execBt41 s
  | .bt42 => execBt42 s
  | .bt43 => execBt43 s
  | .bt44 => execBt44 s
  | .bt45 => execBt45 s
  | .bt46 => execBt46 s
  | .bt47 => execBt47 s
  | .bt48 => execBt48 s
  | .bt49 => execBt49 s
  | .bt50 => execBt50 s
  | .bt51 => execBt51 s
  | .bt52 => execBt52 s
  | .bt53 => execBt53 s
  | .bt54 => execBt54 s
  | .bt55 => execBt55 s
  | .bt56 => execBt56 s
  | .bt57 => execBt57 s
  | .bt58 => execBt58 s
  | .bt59 => execBt59 s
  | .bt60 => execBt60 s
  | .bt61 => execBt61 s
  | .bt62 => execBt62 s
  | .bt63 => execBt63 s
  | .bm64 => execBm64 s
  | .bm128 => execBm128 s
  | .bm192 => execBm192 s
  | .bm256 => execBm256 s
  | .bm320 => execBm320 s
  | .bm384 => execBm384 s
  | .bm448 => execBm448 s
  | .bm512 => execBm512 s
  | .bm576 => execBm576 s
  | .bm640 => execBm640 s
  | .bm704 => execBm704 s
  | .bm768 => execBm768 s
  | .bm832 => execBm832 s
  | .bm896 => execBm896 s
  | .bm960 => execBm960 s
  | .bm1024 => execBm1024 s
  | .bm1088 => execBm1088 s
  | .bm1152 => execBm1152 s
  | .bm1216 => execBm1216 s
  | .bm1280 => execBm1280 s
  | .bm1344 => execBm1344 s
  | .bm1408 => execBm1408 s
  | .bm1472 => execBm1472 s
  | .bm1536 => execBm1536 s
  | .bm1600 => execBm1600 s
  | .bm1664 => execBm1664 s
  | .bm1728 => execBm1728 s
  | .xm1792 => execXm1792 s
  | .xm1856 => execXm1856 s
  | .xm1920 => execXm1920 s
  | .xm1984 => execXm1984 s
  | .xm2048 => execXm2048 s
  | .xm2112 => execXm2112 s
  | .xm2176 => execXm2176 s
  | .xm2240 => execXm2240 s
  | .xm2304 => execXm2304 s
  | .xm2368 => execXm2368 s
  | .xm2432 => execXm2432 s
  | .xm2496 => execXm2496 s
  | .xm2560 => execXm2560 s
  | .eol => execEol s
  | .runRle8 n v => execRunRle8 n v s
  | .runRle4 n v => execRunRle4 n v s
  | .runRle24 n b => execRunRle24 n b s
  | .absRle8 n => execAbsRle8 n s
  | .absRle4 n => execAbsRle4 n s
  | .absRle24 n => execAbsRle24 n s
  | .rleEol => execRleEol s
  | .eob => execEob s
  | .delta => execDelta s
  | .nop | .g3Reset | .g3Line | .rleDecode | .cmeNew _ | .cmeExtract _ | .cmeRgba | .fxcDec | .fxcEnc | .icnUnpack1
    | .icnMono | .icnAlpha => .refused .outsideCommand

/-- Running the command in progress to its `halt`, token by token, within a bound. -/
def runTokens : Nat → State → Host.Outcome State Fault Refusal
  | 0, s => if s.run = .idle then .next s else .fault .commandDidNotEnd
  | n + 1, s =>
    if s.run = .idle then .next s
    else
      match fetchToken s with
      | .done t => runTokens n t
      | .fault f => .fault f
      | .instr i t =>
        match execToken i t with
        | .next u => runTokens n u
        | .fault f => .fault f
        | .refused r => .refused r

/-- A command that interprets its stream, run from its first token to its `halt` as one step of the host's (20_memory.md R80).
Every turn consumes a bit or ends the command, so the bits left bound the turns (70_reset_and_hazards.md R562). -/
def runCommand (s : State) : Host.Outcome State Fault Refusal := runTokens (bitsLeft s + 2) s

end Sys2Proof.Machine
end

