-- ==== Sys2Proof/Machine/G3Line.lean ====
section
/-! DEFINITION. The commands `NOP`, `G3.RESET` and `G3.LINE` (30_encoding.md R93; 40_g3_huffman.md R131, R140). -/

namespace Sys2Proof.Machine

/-- `NOP` (30_encoding.md R93). -/
def execNop (s : State) : Host.Outcome State Fault Refusal := whenIdle s (halt .ok {})

/-- What `G3.RESET` does before its `halt` (R131): `IN_POS` stays. -/
def resetBuffer (s : State) : State := { emptyBuffer s with g3X := 0 }

/-- `G3.RESET` (R131). -/
def execG3Reset (s : State) : Host.Outcome State Fault Refusal := whenIdle s fun t => halt .ok {} (resetBuffer t)

/-- The start of a line (R140): `G3_X <- 0`, white, no run length. -/
def startLine (s : State) : State :=
  beginCommand (.g3 { color := .white, acc := 0, midRun := false }) { s with g3X := 0 }

/-- `G3.LINE` (R140): the parameter tests, then the line run to its `halt`. -/
def execG3Line (s : State) : Host.Outcome State Fault Refusal :=
  match s.run with
  | .idle => if g3ParamsOk s then runCommand (startLine s) else .next (raise .errParam s)
  | .g3 _ => .refused .busy
  | .rle => .refused .busy

end Sys2Proof.Machine
end

