-- ==== Sys2Proof/Machine/Icn.lean ====
section
/-! DEFINITION. The icon-mask engine (46_icon_mask.md R500 to R507). -/

namespace Sys2Proof.Machine

/-! ## ICN.UNPACK1 (R501) -/

/-- The bytes of one packed row, padded to a 4-byte boundary (30_encoding.md R105). -/
def icnStride (w : Nat) : Nat := ((w + 7) / 8 + 3) / 4 * 4

/-- The palette index of bit `7 - j` of a packed byte (30_encoding.md R105). -/
def bitIndex (b : Byte) (j : Nat) : Byte := if b.getLsbD (7 - j) then 1 else 0

/-- The eight pixels of byte `k` of a packed row, written to row `r` of `MB`; those at or beyond the width are ignored. -/
def unpackByte (r k : Nat) (b : Byte) (s : State) : State :=
  forUpTo 8
    (fun j t =>
      if 8 * k + j < t.icnMw.toNat then
        { t with mb := t.mb.writePixel (pixelAddr t.icnMw.toNat (8 * k + j) r) (palette t (bitIndex b j)) }
      else t)
    s

/-- Fetching byte `k` of a row and unpacking it. The length test before the first fetch rules the end of the stream out. -/
def unpackStep (r k : Nat) (s : State) : State :=
  match fetchByte s with
  | none => s
  | some (b, t) => unpackByte r k b t

/-- One packed row of the file, to row `dest_y(y)` of `MB`. -/
def unpackRow (y : Nat) (s : State) : State :=
  forUpTo (icnStride s.icnMw.toNat) (unpackStep (destY s.icnBottomUp s.icnMh.toNat y)) s

/-- All rows in file order. -/
def unpackImage (s : State) : State := forUpTo s.icnMh.toNat unpackRow s

/-- Fewer bytes are left than the packed image needs (60_exceptions.md R526). -/
def shortInput (s : State) : Bool :=
  decide (s.inLen.toNat - s.inPos.toNat < icnStride s.icnMw.toNat * s.icnMh.toNat)

/-- `ICN.UNPACK1` (R501): the tests in the order of 60_exceptions.md R529, then the whole image. -/
def execIcnUnpack1 (s : State) : Host.Outcome State Fault Refusal :=
  whenIdle s fun t =>
    if unpackParamsOk t = false then raise .errParam t
    else if shortInput t then raise .errShortInput t
    else halt .ok {} (unpackImage t)

/-! ## The split (R502) -/

/-- `h`, the rows of one half (R502). -/
def icnHalf (s : State) : Nat := s.icnMh.toNat / 2

/-- `xor(x, r)`: the red byte of the top half (R502). -/
def xorMask (s : State) (x r : Nat) : Byte := s.byteAt .mb (pixelAddr s.icnMw.toNat x r)

/-- `and(x, r)`: the red byte of the bottom half (R502). -/
def andMask (s : State) (x r : Nat) : Byte := s.byteAt .mb (pixelAddr s.icnMw.toNat x (r + icnHalf s))

/-- `alpha(x, r) = 255 - and(x, r)` (R502). -/
def alphaMask (s : State) (x r : Nat) : Byte := 255 - andMask s x r

/-- The height cannot be split (R505; 60_exceptions.md R524). -/
def oddHeight (s : State) : Bool := decide (s.icnMh.toNat % 2 = 1)

/-! ## ICN.MONO (R503) -/

/-- A pixel of the monochrome icon (R503). -/
def monoPixel (s : State) (x r : Nat) : Pixel :=
  { r := xorMask s x r, g := xorMask s x r, b := xorMask s x r, a := alphaMask s x r }

/-- The frame of the monochrome icon, written over `FB` row by row (R503). -/
def monoFrame (s : State) : Memory :=
  forUpTo (icnHalf s)
    (fun r m =>
      forUpTo s.icnMw.toNat (fun x m' => m'.writePixel (pixelAddr s.icnMw.toNat x r) (monoPixel s x r)) m)
    s.fb

/-- `ICN.MONO` (R503). -/
def execIcnMono (s : State) : Host.Outcome State Fault Refusal :=
  whenIdle s fun t =>
    if monoParamsOk t = false then raise .errParam t
    else if oddHeight t then raise .errOddHeight t
    else
      halt .ok (alphaFlags true)
        { t with imgW := t.icnMw, imgH := BitVec.ofNat 32 (icnHalf t), fb := monoFrame t }

/-! ## ICN.ALPHA (R504) -/

/-- The colour frame with the mask's alpha bytes (R504). -/
def alphaFrame (s : State) : Memory :=
  forUpTo (icnHalf s)
    (fun r m =>
      forUpTo s.imgW.toNat (fun x m' => m'.write (pixelAddr s.imgW.toNat x r + 3) (alphaMask s x r)) m)
    s.fb

/-- The colour image does not have the effective size of the mask (R504). -/
def sizeMismatch (s : State) : Bool := decide (s.imgW ≠ s.icnMw) || decide (s.imgH.toNat ≠ icnHalf s)

/-- `ICN.ALPHA` (R504). -/
def execIcnAlpha (s : State) : Host.Outcome State Fault Refusal :=
  whenIdle s fun t =>
    if alphaParamsOk t = false then raise .errParam t
    else if oddHeight t then raise .errOddHeight t
    else if sizeMismatch t then halt .ok noopFlags t
    else halt .ok (alphaFlags true) { t with fb := alphaFrame t }

end Sys2Proof.Machine
end

