-- ==== Sys2Proof/Machine/RleDecode.lean ====
section
/-! DEFINITION. The command `RLE.DECODE` (43_rle.md R420, R421, R424). -/

namespace Sys2Proof.Machine

/-- The colour of pixels no command writes (R421, R437). -/
def rleFill (s : State) : Pixel :=
  if s.rleLeave then (if s.rleMode = some .rle24 then opaqueBlack else palette s 0)
  else { r := 0, g := 0, b := 0, a := 0 }

/-- The start of a decode (R421): the pre-fill of the whole frame, then the cursor at (0, 0). -/
def startRle (s : State) : State :=
  beginCommand .rle
    { s with fb := s.fb.fillPixels (s.imgW.toNat * s.imgH.toNat) (rleFill s), rleX := 0, rleY := 0 }

/-- `RLE.DECODE` (R420, R421, R424): the parameter tests, the pre-fill, then the stream run to its `halt`. -/
def execRleDecode (s : State) : Host.Outcome State Fault Refusal :=
  match s.run with
  | .idle => if rleParamsOk s then runCommand (startRle s) else .next (raise .errParam s)
  | .g3 _ => .refused .busy
  | .rle => .refused .busy

end Sys2Proof.Machine
end

