-- ==== Sys2Proof/Machine/Csr.lean ====
section
/-! DEFINITION. The control-register space and the other accesses of the host (10_state.md R35, R36; 20_memory.md R60 to R63;
70_reset_and_hazards.md R550 to R552). -/

namespace Sys2Proof.Machine

/-- The registers of the `CSR` map (10_state.md R35). -/
inductive Csr where
  | pduCmd | pduStatus | inPos | inLen | imgW | imgH | palCount
  | g3Width | g3Ctrl | g3Buf | g3Bits | g3X
  | rleCtrl | rleX | rleY
  | cmeArg | cmeRes | cmeMask (c : Channel) | cmeDeriv (c : Channel)
  | fxcMode | fxcLo | fxcHi | fxcRgba
  | icnMw | icnMh | icnCtrl
  deriving DecidableEq, Repr

/-- The map, by byte offset (10_state.md R35). -/
def csrMap : List (Nat × Csr) :=
  [(0x000, .pduCmd), (0x004, .pduStatus), (0x008, .inPos), (0x00C, .inLen), (0x010, .imgW), (0x014, .imgH),
   (0x018, .palCount),
   (0x020, .g3Width), (0x024, .g3Ctrl), (0x028, .g3Buf), (0x02C, .g3Bits), (0x030, .g3X),
   (0x040, .rleCtrl), (0x044, .rleX), (0x048, .rleY),
   (0x060, .cmeArg), (0x064, .cmeRes), (0x070, .cmeMask .r), (0x074, .cmeMask .g), (0x078, .cmeMask .b),
   (0x07C, .cmeMask .a), (0x080, .cmeDeriv .r), (0x084, .cmeDeriv .g), (0x088, .cmeDeriv .b), (0x08C, .cmeDeriv .a),
   (0x0A0, .fxcMode), (0x0A4, .fxcLo), (0x0A8, .fxcHi), (0x0AC, .fxcRgba),
   (0x0C0, .icnMw), (0x0C4, .icnMh), (0x0C8, .icnCtrl)]

/-- The register at an offset; none at a reserved one (10_state.md R35). -/
def csrAt (off : Nat) : Option Csr := csrMap.lookup off

/-- `CSR` is 0x000 to 0x0FF, and only aligned words of it exist (20_memory.md R60, R61). -/
def csrExists (off : Nat) : Bool := decide (off < 0x100) && decide (off % 4 = 0)

/-- `CME_DERIV[c]` (10_state.md R32): [4:0] right_shift, [15:8] scale, [16] present, [29:24] bits. -/
def derivWord (c : ColorMask) : Word :=
  BitVec.ofNat 32 (c.rightShift.toNat + 256 * c.scale.toNat + 65536 * c.present.toNat + 16777216 * c.bits.toNat)

/-- Reading a register; reads have no side effect (10_state.md R22, R35, R36). -/
def csrRead (s : State) : Csr → Word
  | .pduCmd => 0
  | .pduStatus => s.status.word
  | .inPos => s.inPos
  | .inLen => s.inLen
  | .imgW => s.imgW
  | .imgH => s.imgH
  | .palCount => s.palCount
  | .g3Width => s.g3Width
  | .g3Ctrl => s.g3Ctrl
  | .g3Buf => s.g3Buf
  | .g3Bits => s.g3Bits.setWidth 32
  | .g3X => s.g3X
  | .rleCtrl => s.rleCtrl
  | .rleX => s.rleX
  | .rleY => s.rleY
  | .cmeArg => s.cmeArg
  | .cmeRes => s.cmeRes
  | .cmeMask c => (s.cm.get c).mask
  | .cmeDeriv c => derivWord (s.cm.get c)
  | .fxcMode => s.fxcMode
  | .fxcLo => s.fxcLo
  | .fxcHi => s.fxcHi
  | .fxcRgba => s.fxcRgba
  | .icnMw => s.icnMw
  | .icnMh => s.icnMh
  | .icnCtrl => s.icnCtrl

/-- Writing a register other than `PDU_CMD`: a write to a read-only one is ignored, any bits are stored in a read/write one
(10_state.md R35, R36). -/
def csrWrite (s : State) (v : Word) : Csr → State
  | .pduCmd => s
  | .pduStatus => s
  | .inPos => { s with inPos := v }
  | .inLen => { s with inLen := v }
  | .imgW => { s with imgW := v }
  | .imgH => { s with imgH := v }
  | .palCount => { s with palCount := v }
  | .g3Width => { s with g3Width := v }
  | .g3Ctrl => { s with g3Ctrl := v }
  | .g3Buf => s
  | .g3Bits => s
  | .g3X => s
  | .rleCtrl => { s with rleCtrl := v }
  | .rleX => s
  | .rleY => s
  | .cmeArg => { s with cmeArg := v }
  | .cmeRes => s
  | .cmeMask _ => s
  | .cmeDeriv _ => s
  | .fxcMode => { s with fxcMode := v }
  | .fxcLo => { s with fxcLo := v }
  | .fxcHi => { s with fxcHi := v }
  | .fxcRgba => { s with fxcRgba := v }
  | .icnMw => { s with icnMw := v }
  | .icnMh => { s with icnMh := v }
  | .icnCtrl => { s with icnCtrl := v }

/-- What a read of an offset returns: 0 at a reserved one (10_state.md R36). -/
def csrReadAt (s : State) (off : Nat) : Word :=
  match csrAt off with
  | some c => csrRead s c
  | none => 0

/-- A write of an offset: ignored at a reserved one (10_state.md R36). -/
def csrWriteAt (s : State) (off : Nat) (v : Word) : State :=
  match csrAt off with
  | some c => csrWrite s v c
  | none => s

/-- The number of bytes of a space (00_scope.md R9; 20_memory.md R60). -/
def spaceSize (c : Config) : Space → Nat
  | .input => c.inSize
  | .pal => 768
  | .lb => c.lbSize
  | .mb => c.mbSize
  | .fb => c.fbSize

/-- The external reset (70_reset_and_hazards.md R550 to R552): every register 0, memory contents unspecified anew. The host's
later accesses, the value of its last read and the parameters are not the PDU's (log 9). -/
def externalReset (s : State) : State :=
  { State.reset with host := s.host, hostData := s.hostData, resets := s.resets + 1, cfg := s.cfg }

/-- Loading one palette entry (20_memory.md R63). -/
def loadPalette (s : State) (i r g b : Byte) : State :=
  { s with pal := s.pal.writeBytes (palAddr i.toNat 0) [r, g, b] }

end Sys2Proof.Machine
end

