-- ==== Sys2Proof/Machine/Fetch.lean ====
section
/-! DEFINITION. What one step of the machine finds to do: a token of the command in progress, or the host's next access
(00_scope.md R10; 20_memory.md R78 to R80). -/

namespace Sys2Proof.Machine

/-- A write of `PDU_CMD` (30_encoding.md R91, R93): the command, or `ERR_ILLEGAL_CMD` with no other effect (60_exceptions.md
R522). -/
def fetchCommand (w : Word) (s : State) : Fetched :=
  match decodeCommand w with
  | .ok i => .instr i s
  | .error _ => .done (raise .errIllegalCmd s)

/-- One access of the host, on the state without it. -/
def hostAccess (a : HostAction) (s : State) : Fetched :=
  match a with
  | .wr off v =>
    if csrExists off = false then .fault (.noSuchRegister off)
    else if off = 0 then fetchCommand v s
    else .done (csrWriteAt s off v)
  | .rd off =>
    if csrExists off = false then .fault (.noSuchRegister off)
    else .done { s with hostData := csrReadAt s off }
  | .load .pal a _ => .fault (.noSuchAddress .pal a)
  | .load sp a b =>
    if a < spaceSize s.cfg sp then .done (s.withMem sp ((s.memOf sp).write a b)) else .fault (.noSuchAddress sp a)
  | .loadPal i r g b => .done (loadPalette s i r g b)
  | .read .input _ => .fault (.notHostReadable .input)
  | .read .pal _ => .fault (.notHostReadable .pal)
  | .read sp a =>
    if a < spaceSize s.cfg sp then .done { s with hostData := (s.byteAt sp a).setWidth 32 }
    else .fault (.noSuchAddress sp a)
  | .reset => .done (externalReset s)

/-- The next access to come is the external reset. -/
def State.resetNext (s : State) : Bool := decide (s.host.head? = some .reset)

/-- The next thing to do. A reset that comes is taken at once, and a command in progress is then abandoned
(70_reset_and_hazards.md R550). Otherwise a command in progress goes on, and the host's accesses wait for its end (20_memory.md
R80); with no command in progress and no access to come, the PDU stays idle (log 2). -/
def fetch (s : State) : Fetched :=
  if s.resetNext then hostAccess .reset { s with host := s.host.tail }
  else
    match s.run with
    | .g3 r => fetchG3 r s
    | .rle => fetchRle s
    | .idle =>
      match s.host with
      | [] => .done s
      | a :: rest => hostAccess a { s with host := rest }

/-! ## Placing a program word (the host's `withFetchWord`; log 3, 17) -/

/-- The stream bytes of a code word: its bits left-aligned in 32, first bit first. -/
def codeWordBytes (len w : Nat) : List Byte :=
  [BitVec.ofNat 8 (w * 2 ^ (32 - len) / 16777216), BitVec.ofNat 8 (w * 2 ^ (32 - len) / 65536),
   BitVec.ofNat 8 (w * 2 ^ (32 - len) / 256), BitVec.ofNat 8 (w * 2 ^ (32 - len))]

/-- A memory that holds the given bytes from address `a` on and nothing else. -/
def memoryFrom (a : Nat) : List Byte → Memory
  | [] => []
  | b :: bs => (a, b) :: memoryFrom (a + 1) bs

/-- A command word as the host's next access. -/
def placeCommand (s : State) (w : Nat) : State :=
  { s with run := .idle, host := .wr 0 (BitVec.ofNat 32 w) :: s.host }

/-- The accesses to come, without a reset that would be taken before the placed word. -/
def hostAfterResets (s : State) : List HostAction := s.host.dropWhile fun a => decide (a = .reset)

/-- An RLE head, then zero bytes up to the longest command (30_encoding.md R101), in a decode in progress. -/
def placeRleHead (s : State) (w : Nat) : State :=
  beginCommand .rle
    { s with
      inMem := memoryFrom 0 (BitVec.ofNat 8 (w / 256) :: BitVec.ofNat 8 w :: List.replicate 766 0)
      inPos := 0, inLen := 768, rleCtrl := 0, imgW := 1, imgH := 1, rleX := 0, rleY := 0, host := hostAfterResets s }

/-- A code word of `len` bits, then zero bits, in a line in progress at its start, in the given colour. -/
def placeCodeWord (s : State) (c : Color) (len w : Nat) : State :=
  beginCommand (.g3 { color := c, acc := 0, midRun := false })
    { s with
      inMem := memoryFrom 0 (codeWordBytes len w)
      inPos := 0, inLen := 4, g3Buf := 0, g3Bits := 0, g3Width := 64, g3X := 0, host := hostAfterResets s }

end Sys2Proof.Machine
end

