-- ==== Sys2Proof/Machine/Step.lean ====
section
/-! DEFINITION. One step: a command, a token, or an access of the host. -/

namespace Sys2Proof.Machine

/-- One step. With no command in progress it is the host's next access, a write of `PDU_CMD` running its command to the end
(20_memory.md R80); with one in progress it is the next token of its stream, or the external reset if that is what comes
(70_reset_and_hazards.md R550). -/
def step (s : State) : Host.Outcome State Fault Refusal :=
  match fetch s with
  | .instr i t => exec i t
  | .done t => .next t
  | .fault f => .fault f

/-- The state whose very next step runs the instruction of a table word (log 3, 17): 32 bits are written to `PDU_CMD`; a code
word stands at the head of the stream of a G3 line, in its colour; an RLE head at the head of the stream of an RLE decode. -/
def State.withFetchWord (s : State) (nbits w : Nat) : State :=
  if nbits = 32 then placeCommand s w
  else
    match tableCodeWord nbits w with
    | some (c, len, _) => placeCodeWord s c len w
    | none => if nbits = 16 then placeRleHead s w else placeCodeWord s .white nbits w

end Sys2Proof.Machine
end

