-- ==== Sys2Proof/Safety.lean ====
section
/-! DEFINITION. What counts as a safe state and a safe step of the PDU, and the words the claims are written in. -/

namespace Sys2Proof

/-- The code is a bit string, that of a T.4 code word or EOL (30_encoding.md R94). -/
def Code.isBits (k : Code) : Bool :=
  match k with
  | .bits _ => true
  | .command _ => false
  | .bytes _ => false

/-- An instruction of the host: its code is a command word (30_encoding.md R90). -/
def Instr.isCommand (i : Instr) : Bool :=
  match encode i with
  | .command _ => true
  | .bits _ => false
  | .bytes _ => false

end Sys2Proof

namespace Sys2Proof.Machine

/-! ## Outcomes -/

/-- The next state of an outcome, if it has one. -/
def nextOf (o : Host.Outcome State Fault Refusal) : Option State :=
  match o with
  | .next t => some t
  | .fault _ => none
  | .refused _ => none

/-- `PDU_STATUS` right after a `halt` (00_scope.md R15). -/
def endStatus (c : ResultCode) (f : ResultFlags) : Status := { busy := false, done := true, code := c, flags := f }

/-! ## Safe states -/

/-- Every memory is in its canonical form. -/
abbrev State.memoriesWf (s : State) : Prop :=
  s.inMem.wf ∧ s.pal.wf ∧ s.lb.wf ∧ s.mb.wf ∧ s.fb.wf

/-- Every listed byte lies inside the capacity of its space (20_memory.md R76). -/
abbrev State.withinCapacity (s : State) : Prop :=
  (∀ c ∈ s.inMem, c.1 < spaceSize s.cfg .input) ∧ (∀ c ∈ s.pal, c.1 < spaceSize s.cfg .pal) ∧
    (∀ c ∈ s.lb, c.1 < spaceSize s.cfg .lb) ∧ (∀ c ∈ s.mb, c.1 < spaceSize s.cfg .mb) ∧
    (∀ c ∈ s.fb, c.1 < spaceSize s.cfg .fb)

/-- The bit-buffer invariant (10_state.md R29): at most 32 valid bits, on top, zeros below them. -/
abbrev State.bufferLegal (s : State) : Prop :=
  s.g3Bits.toNat ≤ 32 ∧ ∀ k, k < 32 - s.g3Bits.toNat → s.g3Buf.getLsbD k = false

/-- Every channel record is the one its mask gives (10_state.md R32; 44_color_mask.md R451). -/
abbrev State.channelsLegal (s : State) : Prop :=
  s.cm.r = colorMask s.cm.r.mask ∧ s.cm.g = colorMask s.cm.g.mask ∧ s.cm.b = colorMask s.cm.b.mask ∧
    s.cm.a = colorMask s.cm.a.mask

/-- What the flags of a result may be (10_state.md R37; 40_g3_huffman.md R156; 43_rle.md R436; 46_icon_mask.md R504;
60_exceptions.md R522 to R526): an error has none; `G3_EARLY` comes with `OK` alone, `G3_BAD` with `OK` or `TRUNCATED` and no
other flag; `ICN_NOOP` with `OK` and `HAS_ALPHA`; before the first command everything is 0. -/
def Status.legal (t : Status) : Bool :=
  (!t.code.isError || decide (t.flags = {})) &&
  (!t.flags.g3Early || (decide (t.code = .ok) && decide (t.flags = earlyFlags))) &&
  (!t.flags.g3Bad || ((decide (t.code = .ok) || decide (t.code = .truncated)) && decide (t.flags = badFlags))) &&
  (!t.flags.icnNoop || (decide (t.code = .ok) && decide (t.flags = noopFlags))) &&
  (t.done || (decide (t.code = .ok) && decide (t.flags = {})))

/-- `BUSY` is 1 exactly while a command runs (10_state.md R23), and the result fields are legal. -/
def State.statusLegal (s : State) : Bool := (s.status.busy == decide (s.run ≠ .idle)) && s.status.legal

/-- A command in progress has legal parameters and cursors inside its line or frame (10_state.md R28, R31;
40_g3_huffman.md R158). -/
def State.progressLegal (s : State) : Bool :=
  match s.run with
  | .idle => true
  | .g3 r =>
    g3ParamsOk s && decide (s.g3X.toNat ≤ s.g3Width.toNat) && decide (r.acc ≤ maxDim) && (r.midRun || decide (r.acc = 0))
  | .rle => rleParamsOk s && decide (s.rleX.toNat ≤ s.imgW.toNat) && decide (s.rleY.toNat ≤ s.imgH.toNat)

/-- A safe state. -/
abbrev State.safe (s : State) : Prop :=
  s.memoriesWf ∧ s.withinCapacity ∧ s.bufferLegal ∧ s.channelsLegal ∧ s.statusLegal = true ∧ s.progressLegal = true

/-! ## Accesses of the host (20_memory.md R60, R61) -/

/-- An access to an address that exists, by an agent the spec gives it to (log 13). -/
def HostAction.legal (c : Config) : HostAction → Bool
  | .wr off _ => decide (off < 256) && decide (off % 4 = 0)
  | .rd off => decide (off < 256) && decide (off % 4 = 0)
  | .load sp a _ => decide (sp ≠ .pal) && decide (a < spaceSize c sp)
  | .loadPal _ _ _ _ => true
  | .read sp a => decide (sp ≠ .input) && decide (sp ≠ .pal) && decide (a < spaceSize c sp)
  | .reset => true

/-! ## Drawing at the cursor of the RLE engine (43_rle.md R423) -/

/-- The address in `FB` of the pixel at the cursor (20_memory.md R67, R72), its row written out: `BOTTOM_UP` is bit 2 of
`RLE_CTRL` (10_state.md R31). -/
def State.cursorAddr (s : State) : Nat :=
  4 * ((if s.rleCtrl.getLsbD 2 then s.imgH.toNat - 1 - s.rleY.toNat else s.rleY.toNat) * s.imgW.toNat + s.rleX.toNat)

/-- What address `a` of `FB` reads after `n` pixels `px 0`, `px 1`, … are put from the cursor of `s` on: those right of the
frame or below it are dropped, every other byte is as before. -/
def State.drawn (s : State) (n : Nat) (px : Nat → Pixel) (a : Nat) : Byte :=
  if s.rleY.toNat < s.imgH.toNat ∧ s.cursorAddr ≤ a ∧ a < s.cursorAddr + 4 * min n (s.imgW.toNat - s.rleX.toNat) then
    (px ((a - s.cursorAddr) / 4)).bytes.getD ((a - s.cursorAddr) % 4) 0
  else s.byteAt .fb a

/-! ## The stream as bits (10_state.md R24; 00_scope.md R12) -/

/-- The bits of a stream byte, bit 7 first. -/
def byteBits (b : Byte) : List Bool := codeBits 8 b.toNat

/-- The bits not yet decoded: those waiting in the buffer, then those of the bytes not yet fetched. -/
def State.pendingBits (s : State) : List Bool :=
  (List.range s.g3Bits.toNat).map (peek s.g3Buf) ++
    (List.range (s.inLen.toNat - s.inPos.toNat)).flatMap fun k => byteBits (s.byteAt .input (s.inPos.toNat + k))

/-- The code words of `LINE r0 r1 …` from a colour on (30_encoding.md R121). -/
def lineCode : Color → List Nat → List Instr
  | _, [] => []
  | c, n :: ns => expandRun c n ++ lineCode (otherColor c) ns

/-- The colours of the pixels that alternating runs cover, the first run in the given colour. -/
def linePixels : Color → List Nat → List Color
  | _, [] => []
  | c, n :: ns => List.replicate n c ++ linePixels (otherColor c) ns

/-! ## Tables the claims compare with -/

/-- `THR[1..255]` (45_s213_converter.md R476). -/
def thrTable : List Nat :=
  List.flatten
    [[2, 4, 7, 9, 12, 14, 17, 19, 22, 24, 27, 29, 32, 35, 38],
     [41, 45, 48, 52, 56, 60, 64, 68, 73, 78, 83, 88, 93, 98, 104],
     [110, 116, 122, 128, 135, 142, 149, 156, 163, 170, 178, 186, 194, 203, 211],
     [220, 229, 238, 247, 257, 267, 277, 287, 297, 308, 319, 330, 341, 353, 365],
     [377, 389, 401, 414, 427, 440, 454, 467, 481, 495, 509, 524, 539, 554, 569],
     [585, 600, 617, 633, 649, 666, 683, 700, 718, 736, 754, 772, 791, 809, 828],
     [848, 867, 887, 907, 928, 948, 969, 990, 1012, 1034, 1055, 1078, 1100, 1123, 1146],
     [1169, 1193, 1217, 1241, 1266, 1290, 1315, 1341, 1366, 1392, 1418, 1444, 1471, 1498, 1525],
     [1553, 1581, 1609, 1637, 1666, 1695, 1724, 1754, 1784, 1814, 1844, 1875, 1906, 1938, 1969],
     [2001, 2034, 2066, 2099, 2132, 2166, 2199, 2233, 2268, 2303, 2338, 2373, 2409, 2444, 2481],
     [2517, 2554, 2591, 2629, 2667, 2705, 2743, 2782, 2821, 2860, 2900, 2940, 2981, 3021, 3062],
     [3104, 3145, 3187, 3229, 3272, 3315, 3358, 3402, 3446, 3490, 3535, 3580, 3625, 3670, 3716],
     [3763, 3809, 3856, 3903, 3951, 3999, 4047, 4096, 4145, 4194, 4244, 4294, 4344, 4394, 4445],
     [4497, 4548, 4600, 4653, 4706, 4759, 4812, 4866, 4920, 4974, 5029, 5084, 5140, 5196, 5252],
     [5308, 5365, 5423, 5480, 5538, 5597, 5655, 5714, 5774, 5833, 5894, 5954, 6015, 6076, 6138],
     [6200, 6262, 6325, 6388, 6451, 6515, 6579, 6643, 6708, 6773, 6839, 6905, 6971, 7038, 7105],
     [7173, 7240, 7309, 7377, 7446, 7515, 7585, 7655, 7725, 7796, 7867, 7939, 8011, 8083, 8156]]

end Sys2Proof.Machine
end

