-- ==== Sys2Proof/Certificates/Slice0/Obligations.lean ====
section
/-! DEFINITION. The statements for the provers, from the numbered rules of spec/. A statement that rests on a choice of the
model names the log entry. -/

open Sys2Proof Sys2Proof.Machine

/-- Every legal command word is the code of the command it decodes to, and no other word decodes to it
(30_encoding.md R91 to R93). -/
def Obligations.CommandWordsDecodeExactly : Prop :=
  ∀ (w : Word) (i : Instr), decodeCommand w = .ok i ↔ encode i = .command w

/-- An illegal command word (60_exceptions.md R522), by its fields. -/
def Obligations.IllegalCommandWordRaisesErrIllegalCmd : Prop :=
  ∀ (s : State) (rest : List HostAction) (w : Word), s.run = .idle → s.host = .wr 0 w :: rest →
    (w.toNat / 1024 ≠ 0 ∨
      w.toNat % 256 ∉ [0x00, 0x01, 0x02, 0x10, 0x20, 0x21, 0x22, 0x30, 0x31, 0x40, 0x41, 0x42] ∨
      (w.toNat / 256 % 4 ≠ 0 ∧ w.toNat % 256 ≠ 0x20 ∧ w.toNat % 256 ≠ 0x21)) →
    step s = .next { s with host := rest, status := endStatus .errIllegalCmd {} }

/-- Decode and encode agree on every instruction (30_encoding.md R90 to R103). -/
def Obligations.DecodeOfEncodeIsTheInstruction : Prop :=
  ∀ i : Instr, i.wellFormed = true → ∀ c ∈ i.contexts, decode c (encode i) = .ok i

/-- The codes are prefix-free and none looks like an EOL: a code word is read whatever follows it (30_encoding.md
R98; 40_g3_huffman.md R155). -/
def Obligations.CodeWordIsReadAtTheHeadOfTheBuffer : Prop :=
  ∀ (i : Instr) (bs rest : List Bool) (c : Color) (start : Bool), encode i = .bits bs →
    Context.codeWord c start ∈ i.contexts → bs.length + rest.length ≤ 32 →
    decodeG3 c start (bufferOf (bs ++ rest)) (bs.length + rest.length) = .ok (i, bs.length)

/-- `lookup` as a whole (40_g3_huffman.md R138): which answer, and exactly when. -/
def Obligations.LookupAnswersLeafExhaustedOrInvalid : Prop :=
  ∀ (c : Color) (buf : Word) (bits : Nat), bits ≤ 32 →
    (∀ (i : Instr) (len : Nat), lookup c buf bits = .ok (i, len) ↔
      ∃ r ∈ treeRows c, r.instr = i ∧ r.len = len ∧ len ≤ bits ∧ (List.range len).map (peek buf) = codeBits r.len r.value) ∧
    (lookup c buf bits = .error .codeCutShort ↔
      ∃ r ∈ treeRows c, bits < r.len ∧ (List.range bits).map (peek buf) = (codeBits r.len r.value).take bits) ∧
    (lookup c buf bits = .error .unrecognisedCode ↔ 8 ≤ bits ∧ buf.extractLsb' 24 8 = 0)

/-- No RLE head is reserved, and none has two meanings in one mode (30_encoding.md R100, R103). -/
def Obligations.RleHeadsAreUnambiguous : Prop :=
  ∀ (m : RleMode) (a b : Byte),
    (decodeRle m a b).wellFormed = true ∧ encode (decodeRle m a b) = .bytes [a, b] ∧
      Context.rle m ∈ (decodeRle m a b).contexts

/-- A sanity check on fixed words (30_encoding.md R92, R96, R100; 40_g3_huffman.md R150 to R154). -/
def Obligations.WrittenOutWordsDecode : Prop :=
  decodeCommand 0x00000041 = .ok .icnMono ∧ decodeCommand 0x00000221 = .ok (.cmeExtract .b) ∧
    decode (.codeWord .white true) (.bits [false, true, true, true]) = .ok .wt2 ∧
    decode (.codeWord .black true) (.bits [false, true, true]) = .ok .bt4 ∧
    decode (.codeWord .white false) (.bits [true, true, false, true, true]) = .ok .wm64 ∧
    decode (.codeWord .black true)
      (.bits [false, false, false, false, false, false, true, true, false, true, true, false, false]) = .ok .bm512 ∧
    decode (.codeWord .black false)
      (.bits [false, false, false, false, false, false, false, true, true, true, true, true]) = .ok .xm2560 ∧
    decode (.codeWord .white true)
      (.bits [false, false, false, false, false, false, false, false, false, false, false, true]) = .ok .eol ∧
    decode (.rle .rle8) (.bytes [3, 5]) = .ok (.runRle8 3 5) ∧ decode (.rle .rle4) (.bytes [0, 5]) = .ok (.absRle4 5) ∧
    decode (.rle .rle24) (.bytes [0, 2]) = .ok .delta

/-- The pseudo-instructions `WRUN n` and `BRUN n` (30_encoding.md R121). -/
def Obligations.RunExpansionAddsUpToTheRun : Prop :=
  ∀ (c : Color) (n : Nat), ∃ (ms : List T4Row) (l : T4Row),
    expandRun c n = (ms ++ [l]).map (fun r => r.instr) ∧
    (∀ r ∈ ms, r ∈ treeRows c ∧ 64 ≤ r.run) ∧
    (l ∈ treeRows c ∧ l.run ≤ 63) ∧
    ((ms ++ [l]).map fun r => r.run).sum = n

/-- A step runs the decoded command (30_encoding.md R91). -/
def Obligations.StepRunsTheCommandWritten : Prop :=
  ∀ (s : State) (rest : List HostAction) (w : Word) (i : Instr), s.run = .idle → s.host = .wr 0 w :: rest →
    decodeCommand w = .ok i → step s = exec i { s with host := rest }

/-- A step runs the decoded code word (40_g3_huffman.md R140), unless the external reset comes
(70_reset_and_hazards.md R550). That a step is one token of a line is the model's choice (log 1). -/
def Obligations.StepRunsTheNextCodeWord : Prop :=
  ∀ (s : State) (r : G3Run) (i : Instr) (len : Nat), s.run = .g3 r → s.host.head? ≠ some .reset →
    (r.midRun = false → s.g3X.toNat < s.g3Width.toNat ∧ (refill s).g3Bits.toNat ≠ 0) →
    decodeG3 r.color (!r.midRun) (refill s).g3Buf (refill s).g3Bits.toNat = .ok (i, len) →
    step s = exec i (if r.midRun then refill s else { refill s with run := .g3 { r with acc := 0 } })

/-- The loop of `RLE.DECODE`, one turn (43_rle.md R424, R434, R435; 60_exceptions.md R529), while no external reset
comes (70_reset_and_hazards.md R550), by the fields of `RLE_CTRL` (10_state.md R31). That a step is one command of a
stream, and that RLE24 is there only where HAS_RLE24 is true, are the model's choices (log 1, 6). -/
def Obligations.StepRunsTheNextRleCommandOrEndsTheDecode : Prop :=
  ∀ s : State, s.run = .rle → s.host.head? ≠ some .reset →
    (s.imgH.toNat ≤ s.rleY.toNat →
      step s = .next { s with run := .idle, status := endStatus .rowsDone { hasAlpha := !s.rleCtrl.getLsbD 3 } }) ∧
    ∀ (m : RleMode) (n : Nat), (m, n) ∈ [(RleMode.rle8, 0), (RleMode.rle4, 1), (RleMode.rle24, 2)] →
      s.rleCtrl.toNat % 4 = n → (m = .rle24 → s.cfg.hasRle24 = true) → s.rleY.toNat < s.imgH.toNat →
      (s.inPos.toNat + 2 ≤ s.inLen.toNat →
        step s = exec (decodeRle m (s.byteAt .input s.inPos.toNat) (s.byteAt .input (s.inPos.toNat + 1)))
          { s with inPos := s.inPos + 2 }) ∧
      (s.inPos.toNat ≤ s.inLen.toNat → s.inLen.toNat < s.inPos.toNat + 2 →
        step s =
          .next
            { s with
              inPos := s.inLen, run := .idle
              status := endStatus .truncated { hasAlpha := !s.rleCtrl.getLsbD 3 } })

/-- Register state after reset (70_reset_and_hazards.md R551), read through the map of 10_state.md R35. -/
def Obligations.ResetReadsZeroEverywhere : Prop :=
  (∀ off, off < 256 → off % 4 = 0 → csrReadAt State.reset off = 0) ∧
    (∀ c, State.reset.cm.get c = { mask := 0, rightShift := 0, scale := 0, present := false, bits := 0 }) ∧
    State.reset.g3Buf = 0 ∧ State.reset.g3Bits = 0 ∧ State.reset.run = .idle ∧
    State.reset.status = { busy := false, done := false, code := .ok, flags := {} }

/-- Access rules of the control registers (10_state.md R35, R36), the read/write offsets written out. -/
def Obligations.HostWriteReachesExactlyItsRegister : Prop :=
  ∀ (s : State) (rest : List HostAction) (off : Nat) (v : Word), s.run = .idle → s.host = .wr off v :: rest →
    off < 256 → off % 4 = 0 → off ≠ 0 →
    ∃ t, step s = .next t ∧
      (∀ o, csrReadAt t o =
        if o = off ∧ off ∈ [0x008, 0x00C, 0x010, 0x014, 0x018, 0x020, 0x024, 0x040, 0x060, 0x0A0, 0x0A4, 0x0A8, 0x0AC,
          0x0C0, 0x0C4, 0x0C8] then v
        else csrReadAt s o) ∧
      t.status = s.status ∧ t.run = s.run ∧ t.cm = s.cm ∧ t.inMem = s.inMem ∧ t.pal = s.pal ∧ t.lb = s.lb ∧ t.mb = s.mb ∧
      t.fb = s.fb ∧ t.host = rest ∧ t.hostData = s.hostData ∧ t.resets = s.resets ∧ t.cfg = s.cfg

/-- Reads of the control registers (10_state.md R22, R23, R32, R35, R36), every offset of the map written out. That
the value returned stands in `hostData` is the model's choice (log 18). -/
def Obligations.HostReadReturnsTheRegisterAndChangesNothing : Prop :=
  ∀ (s : State) (rest : List HostAction) (off : Nat), s.run = .idle → s.host = .rd off :: rest → off < 256 → off % 4 = 0 →
    step s = .next { s with host := rest, hostData := csrReadAt s off } ∧
      (off ∈ [0x000, 0x01C, 0x034, 0x038, 0x03C, 0x04C, 0x050, 0x054, 0x058, 0x05C, 0x068, 0x06C, 0x090, 0x094, 0x098,
        0x09C, 0x0B0, 0x0B4, 0x0B8, 0x0BC] ∨ 0x0CC ≤ off → csrReadAt s off = 0) ∧
      ((csrReadAt s 0x004).getLsbD 0 = s.status.busy ∧ (csrReadAt s 0x004).getLsbD 1 = s.status.done ∧
        ((csrReadAt s 0x004).extractLsb' 4 4).toNat = s.status.code.number ∧
        (csrReadAt s 0x004).getLsbD 8 = s.status.flags.hasAlpha ∧ (csrReadAt s 0x004).getLsbD 9 = s.status.flags.g3Early ∧
        (csrReadAt s 0x004).getLsbD 10 = s.status.flags.g3Bad ∧ (csrReadAt s 0x004).getLsbD 11 = s.status.flags.icnNoop ∧
        (csrReadAt s 0x004).extractLsb' 2 2 = 0 ∧ (csrReadAt s 0x004).extractLsb' 12 20 = 0) ∧
      (csrReadAt s 0x008 = s.inPos ∧ csrReadAt s 0x00C = s.inLen ∧ csrReadAt s 0x010 = s.imgW ∧ csrReadAt s 0x014 = s.imgH ∧
        csrReadAt s 0x018 = s.palCount) ∧
      (csrReadAt s 0x020 = s.g3Width ∧ csrReadAt s 0x024 = s.g3Ctrl ∧ csrReadAt s 0x028 = s.g3Buf ∧
        csrReadAt s 0x02C = s.g3Bits.setWidth 32 ∧ csrReadAt s 0x030 = s.g3X) ∧
      (csrReadAt s 0x040 = s.rleCtrl ∧ csrReadAt s 0x044 = s.rleX ∧ csrReadAt s 0x048 = s.rleY) ∧
      (csrReadAt s 0x060 = s.cmeArg ∧ csrReadAt s 0x064 = s.cmeRes) ∧
      (csrReadAt s 0x0A0 = s.fxcMode ∧ csrReadAt s 0x0A4 = s.fxcLo ∧ csrReadAt s 0x0A8 = s.fxcHi ∧
        csrReadAt s 0x0AC = s.fxcRgba) ∧
      (csrReadAt s 0x0C0 = s.icnMw ∧ csrReadAt s 0x0C4 = s.icnMh ∧ csrReadAt s 0x0C8 = s.icnCtrl) ∧
      (∀ c : Channel, csrReadAt s (0x070 + 4 * c.number) = (s.cm.get c).mask ∧
        csrReadAt s (0x080 + 4 * c.number) =
          BitVec.ofNat 32 ((s.cm.get c).rightShift.toNat + 2 ^ 8 * (s.cm.get c).scale.toNat +
            2 ^ 16 * (s.cm.get c).present.toNat + 2 ^ 24 * (s.cm.get c).bits.toNat))

/-- The external reset (70_reset_and_hazards.md R550 to R552), whatever command is in progress. It rests on the
model's choices of log 7, 8 and 9. -/
def Obligations.ExternalResetForgetsEverything : Prop :=
  ∀ (s : State) (rest : List HostAction), s.host = .reset :: rest →
    ∃ t, step s = .next t ∧ (∀ off, off < 256 → off % 4 = 0 → csrReadAt t off = 0) ∧ t.run = .idle ∧
      (∀ sp a, t.byteAt sp a = Config.unwrittenByte sp a (s.resets + 1)) ∧ t.host = rest ∧ t.cfg = s.cfg ∧
      t.hostData = s.hostData ∧ t.resets = s.resets + 1 ∧
      ∀ s' : State, s'.host = s.host → s'.cfg = s.cfg → s'.hostData = s.hostData → s'.resets = s.resets →
        step s' = .next t

/-- A read returns the last value written to that byte (20_memory.md R78). -/
def Obligations.LoadedByteIsReadBackAndNoOtherChanges : Prop :=
  ∀ (s : State) (rest : List HostAction) (sp : Space) (a : Nat) (b : Byte), s.run = .idle → sp ≠ .pal →
    a < spaceSize s.cfg sp → s.host = .load sp a b :: rest →
    ∃ t, step s = .next t ∧ t = { s with host := rest, inMem := t.inMem, lb := t.lb, mb := t.mb, fb := t.fb } ∧
      (∀ sp' a', t.byteAt sp' a' = if sp' = sp ∧ a' = a then b else s.byteAt sp' a') ∧
      (∀ rest', sp ≠ .input → rest = .read sp a :: rest' →
        step t = .next { t with host := rest', hostData := b.setWidth 32 })

/-- The palette and its lookup (20_memory.md R63; 43_rle.md R422). -/
def Obligations.LoadedPaletteEntryIsWhatLookupGives : Prop :=
  ∀ (s : State) (rest : List HostAction) (i r g b : Byte), s.run = .idle → s.host = .loadPal i r g b :: rest →
    ∃ t, step s = .next t ∧ t = { s with host := rest, pal := t.pal } ∧
      palette t i =
        (if i.toNat < s.palCount.toNat then { r := r, g := g, b := b, a := 255 } else { r := 0, g := 0, b := 0, a := 255 }) ∧
      ∀ j, j ≠ i → palette t j = palette s j

/-- The bit buffer and the stream together are one sequence of bits (10_state.md R24; 40_g3_huffman.md R132 to
R134). -/
def Obligations.BufferPrimitivesKeepTheBitStream : Prop :=
  ∀ s : State, s.bufferLegal → s.inPos.toNat ≤ s.inLen.toNat →
    (refill s).pendingBits = s.pendingBits ∧
    ∀ k, k ≤ s.g3Bits.toNat → (consume k s).pendingBits = s.pendingBits.drop k

/-- WT0 to WT63 (40_g3_huffman.md R144, R150), with the level of the colour of R141 over the parameter of log 5. -/
def Obligations.WhiteTerminalCodesEndTheRun : Prop :=
  whiteTerminal.map (fun row => row.instr) =
      [.wt0, .wt1, .wt2, .wt3, .wt4, .wt5, .wt6, .wt7, .wt8, .wt9, .wt10, .wt11, .wt12, .wt13,
       .wt14, .wt15, .wt16, .wt17, .wt18, .wt19, .wt20, .wt21, .wt22, .wt23, .wt24, .wt25, .wt26, .wt27,
       .wt28, .wt29, .wt30, .wt31, .wt32, .wt33, .wt34, .wt35, .wt36, .wt37, .wt38, .wt39, .wt40, .wt41,
       .wt42, .wt43, .wt44, .wt45, .wt46, .wt47, .wt48, .wt49, .wt50, .wt51, .wt52, .wt53, .wt54, .wt55,
       .wt56, .wt57, .wt58, .wt59, .wt60, .wt61, .wt62, .wt63] ∧
    whiteTerminal.map (fun row => row.run) = List.range 64 ∧
    ∀ row ∈ whiteTerminal, ∀ (s : State) (r : G3Run), s.run = .g3 r → r.color = .white →
      ∃ t, exec row.instr s = .next t ∧
        t =
          { s with
            g3Buf := s.g3Buf <<< row.len
            g3Bits := BitVec.ofNat 6 (s.g3Bits.toNat - row.len)
            g3X := BitVec.ofNat 32
              (s.g3X.toNat + min (min (r.acc + row.run) 2147483647) (s.g3Width.toNat - s.g3X.toNat))
            run := .g3 { color := .black, acc := 0, midRun := false }
            lb := t.lb } ∧
        ∀ a, t.byteAt .lb a =
          if s.g3X.toNat ≤ a ∧
              a < s.g3X.toNat + min (min (r.acc + row.run) 2147483647) (s.g3Width.toNat - s.g3X.toNat) then
            if s.g3Ctrl.getLsbD 0 then ~~~s.cfg.whiteBase else s.cfg.whiteBase
          else s.byteAt .lb a

/-- BT0 to BT63 (40_g3_huffman.md R144, R152), with the level of the colour of R141 over the parameter of log 5. -/
def Obligations.BlackTerminalCodesEndTheRun : Prop :=
  blackTerminal.map (fun row => row.instr) =
      [.bt0, .bt1, .bt2, .bt3, .bt4, .bt5, .bt6, .bt7, .bt8, .bt9, .bt10, .bt11, .bt12, .bt13,
       .bt14, .bt15, .bt16, .bt17, .bt18, .bt19, .bt20, .bt21, .bt22, .bt23, .bt24, .bt25, .bt26, .bt27,
       .bt28, .bt29, .bt30, .bt31, .bt32, .bt33, .bt34, .bt35, .bt36, .bt37, .bt38, .bt39, .bt40, .bt41,
       .bt42, .bt43, .bt44, .bt45, .bt46, .bt47, .bt48, .bt49, .bt50, .bt51, .bt52, .bt53, .bt54, .bt55,
       .bt56, .bt57, .bt58, .bt59, .bt60, .bt61, .bt62, .bt63] ∧
    blackTerminal.map (fun row => row.run) = List.range 64 ∧
    ∀ row ∈ blackTerminal, ∀ (s : State) (r : G3Run), s.run = .g3 r → r.color = .black →
      ∃ t, exec row.instr s = .next t ∧
        t =
          { s with
            g3Buf := s.g3Buf <<< row.len
            g3Bits := BitVec.ofNat 6 (s.g3Bits.toNat - row.len)
            g3X := BitVec.ofNat 32
              (s.g3X.toNat + min (min (r.acc + row.run) 2147483647) (s.g3Width.toNat - s.g3X.toNat))
            run := .g3 { color := .white, acc := 0, midRun := false }
            lb := t.lb } ∧
        ∀ a, t.byteAt .lb a =
          if s.g3X.toNat ≤ a ∧
              a < s.g3X.toNat + min (min (r.acc + row.run) 2147483647) (s.g3Width.toNat - s.g3X.toNat) then
            if s.g3Ctrl.getLsbD 0 then s.cfg.whiteBase else ~~~s.cfg.whiteBase
          else s.byteAt .lb a

/-- WM64 to WM1728 and BM64 to BM1728 (40_g3_huffman.md R145, R151, R153). -/
def Obligations.MakeupCodesLengthenTheRun : Prop :=
  (whiteMakeup.map (fun row => row.instr) =
        [.wm64, .wm128, .wm192, .wm256, .wm320, .wm384, .wm448, .wm512, .wm576, .wm640, .wm704, .wm768,
         .wm832, .wm896, .wm960, .wm1024, .wm1088, .wm1152, .wm1216, .wm1280, .wm1344, .wm1408, .wm1472, .wm1536,
         .wm1600, .wm1664, .wm1728] ∧
      whiteMakeup.map (fun row => row.run) = (List.range 27).map (fun k => 64 * k + 64) ∧
      ∀ row ∈ whiteMakeup, ∀ (s : State) (r : G3Run), s.run = .g3 r → r.color = .white →
        exec row.instr s =
          .next
            { s with
              g3Buf := s.g3Buf <<< row.len
              g3Bits := BitVec.ofNat 6 (s.g3Bits.toNat - row.len)
              run := .g3 { color := .white, acc := min (r.acc + row.run) 2147483647, midRun := true } }) ∧
    (blackMakeup.map (fun row => row.instr) =
        [.bm64, .bm128, .bm192, .bm256, .bm320, .bm384, .bm448, .bm512, .bm576, .bm640, .bm704, .bm768,
         .bm832, .bm896, .bm960, .bm1024, .bm1088, .bm1152, .bm1216, .bm1280, .bm1344, .bm1408, .bm1472, .bm1536,
         .bm1600, .bm1664, .bm1728] ∧
      blackMakeup.map (fun row => row.run) = (List.range 27).map (fun k => 64 * k + 64) ∧
      ∀ row ∈ blackMakeup, ∀ (s : State) (r : G3Run), s.run = .g3 r → r.color = .black →
        exec row.instr s =
          .next
            { s with
              g3Buf := s.g3Buf <<< row.len
              g3Bits := BitVec.ofNat 6 (s.g3Bits.toNat - row.len)
              run := .g3 { color := .black, acc := min (r.acc + row.run) 2147483647, midRun := true } })

/-- XM1792 to XM2560 (40_g3_huffman.md R146, R154). -/
def Obligations.SharedMakeupCodesLengthenTheRun : Prop :=
  sharedMakeup.map (fun row => row.instr) =
      [.xm1792, .xm1856, .xm1920, .xm1984, .xm2048, .xm2112, .xm2176, .xm2240,
       .xm2304, .xm2368, .xm2432, .xm2496, .xm2560] ∧
    sharedMakeup.map (fun row => row.run) = (List.range 13).map (fun k => 64 * k + 1792) ∧
    ∀ row ∈ sharedMakeup, ∀ (s : State) (r : G3Run), s.run = .g3 r →
      exec row.instr s =
        .next
          { s with
            g3Buf := s.g3Buf <<< row.len
            g3Bits := BitVec.ofNat 6 (s.g3Bits.toNat - row.len)
            run := .g3 { color := r.color, acc := min (r.acc + row.run) 2147483647, midRun := true } }

/-- EOL (40_g3_huffman.md R143, R147). -/
def Obligations.EolIsSkippedAtLineStartElseEndsTheLine : Prop :=
  ∀ (s : State) (r : G3Run), s.run = .g3 r → r.midRun = false →
    (s.g3X.toNat = 0 →
      exec .eol s = .next { s with g3Buf := s.g3Buf <<< 12, g3Bits := BitVec.ofNat 6 (s.g3Bits.toNat - 12) }) ∧
    (0 < s.g3X.toNat →
      exec .eol s =
        .next
          { s with
            g3Buf := s.g3Buf <<< 12
            g3Bits := BitVec.ofNat 6 (s.g3Bits.toNat - 12)
            run := .idle
            status := { busy := false, done := true, code := .ok, flags := { g3Early := true } } })

/-- What the spec says cannot occur is refused (93_implementation_defined.md U12; the model's choice, log 11 and
12). -/
def Obligations.InstructionsOutOfPlaceAreRefused : Prop :=
  ∀ (i : Instr) (s : State),
    (i.isCommand = true → s.run ≠ .idle → exec i s = .refused .busy) ∧
    (i.isCommand = false → s.run = .idle → exec i s = .refused .outsideCommand) ∧
    (∀ r, (encode i).isBits = false → i.isCommand = false → s.run = .g3 r → exec i s = .refused .outsideCommand) ∧
    ((encode i).isBits = true → s.run = .rle → exec i s = .refused .outsideCommand) ∧
    (∀ r, s.run = .g3 r → r.color = .white → (∃ row ∈ blackTerminal ++ blackMakeup, row.instr = i) →
      exec i s = .refused .notRecognisedHere) ∧
    (∀ r, s.run = .g3 r → r.color = .black → (∃ row ∈ whiteTerminal ++ whiteMakeup, row.instr = i) →
      exec i s = .refused .notRecognisedHere) ∧
    (∀ r, s.run = .g3 r → r.midRun = true → i = .eol → exec i s = .refused .notRecognisedHere) ∧
    (∀ m, s.run = .rle → i.contexts = [.rle m] → s.rleMode ≠ some m → exec i s = .refused .notRecognisedHere)

/-- `G3.RESET` (40_g3_huffman.md R131) and `NOP` (30_encoding.md R93, its sentence on `NOP`). -/
def Obligations.G3ResetEmptiesTheBufferAndNopNothing : Prop :=
  ∀ s : State, s.run = .idle →
    exec .g3Reset s = .next { s with g3Buf := 0, g3Bits := 0, g3X := 0, status := endStatus .ok {} } ∧
    exec .nop s = .next { s with status := endStatus .ok {} }

/-- `G3.LINE` as a whole (40_g3_huffman.md R140, R149, R156, R159; 20_memory.md R64; 70_reset_and_hazards.md R562).
The two levels are those of R141 over the parameter of log 5. -/
def Obligations.G3LineEndsAndTouchesOnlyItsLine : Prop :=
  ∀ s : State, s.run = .idle → g3ParamsOk s = true →
    ∃ t, exec .g3Line s = .next t ∧
      t =
        { s with
          inPos := t.inPos, g3Buf := t.g3Buf, g3Bits := t.g3Bits, g3X := t.g3X, lb := t.lb, status := t.status } ∧
      t.g3X.toNat ≤ s.g3Width.toNat ∧
      (∀ a, t.g3X.toNat ≤ a → t.byteAt .lb a = s.byteAt .lb a) ∧
      (∀ a, a < t.g3X.toNat → t.byteAt .lb a = s.cfg.whiteBase ∨ t.byteAt .lb a = ~~~s.cfg.whiteBase) ∧
      (s.inPos.toNat ≤ t.inPos.toNat ∧ t.inPos.toNat ≤ s.inLen.toNat) ∧
      ((t.status = endStatus .ok {} ∧ t.g3X = s.g3Width) ∨
        (t.status = endStatus .ok { g3Early := true } ∧ 0 < t.g3X.toNat ∧ t.g3X.toNat < s.g3Width.toNat) ∨
        (t.status = endStatus .ok { g3Bad := true } ∧ t.g3X.toNat < s.g3Width.toNat) ∨
        (t.status = endStatus .truncated { g3Bad := true } ∧ t.g3X.toNat < s.g3Width.toNat ∧ t.inPos = s.inLen ∧ t.g3Buf = 0 ∧
          t.g3Bits = 0) ∨
        (t.status = endStatus .truncated {} ∧ t.g3X.toNat < s.g3Width.toNat ∧ t.inPos = s.inLen ∧ t.g3Bits.toNat < 13)) ∧
      (s.g3Width = 0 → t = { s with g3X := 0, status := endStatus .ok {} })

/-- Encoding a line and decoding it gives its pixels (30_encoding.md R121; 40_g3_huffman.md R140, R157). The two
levels are those of R141 over the parameter of log 5: the complement as the level of black is the model's choice,
and for the base 0 of R141 it is 255. -/
def Obligations.EncodedLineDecodesToItsRuns : Prop :=
  ∀ (s : State) (runs : List Nat) (rest : List Bool), s.run = .idle → g3ParamsOk s = true → s.bufferLegal →
    runs.sum = s.g3Width.toNat → (∀ k, k < runs.length → (runs.take k).sum < s.g3Width.toNat) →
    s.pendingBits = streamBits (lineCode .white runs) ++ rest →
    ∃ t, exec .g3Line s = .next t ∧ t.status = endStatus .ok {} ∧ t.g3X = s.g3Width ∧ t.pendingBits = rest ∧
      ∀ a, a < s.g3Width.toNat →
        t.byteAt .lb a =
          if ((linePixels .white runs).getD a .white = .black ↔ s.g3Ctrl.getLsbD 0 = true) then s.cfg.whiteBase
          else ~~~s.cfg.whiteBase

/-- The parameter tests (60_exceptions.md R523), written out over the registers. That MODE = 2 is legal only where
the parameter HAS_RLE24 is true is the model's choice (log 6; 00_scope.md R6, 93_implementation_defined.md U11). -/
def Obligations.IllegalParametersRaiseErrParam : Prop :=
  ∀ (s : State) (i : Instr), s.run = .idle →
    let stream := s.inPos.toNat ≤ s.inLen.toNat ∧ s.inLen.toNat ≤ s.cfg.inSize
    let dim := fun d : Word => 1 ≤ d.toNat ∧ d.toNat ≤ 2 ^ 31 - 1
    let mask := dim s.icnMw ∧ dim s.icnMh ∧ 4 * s.icnMw.toNat * s.icnMh.toNat ≤ s.cfg.mbSize
    let legal :=
      (i = .g3Line → s.g3Ctrl.toNat < 2 ∧ s.g3Width.toNat ≤ min (2 ^ 31 - 1) s.cfg.lbSize ∧ stream) ∧
      (i = .rleDecode → s.rleCtrl.toNat < 16 ∧ s.rleCtrl.toNat % 4 ≠ 3 ∧ (s.rleCtrl.toNat % 4 = 2 → s.cfg.hasRle24 = true) ∧
        dim s.imgW ∧ dim s.imgH ∧ s.palCount.toNat ≤ 256 ∧ 4 * s.imgW.toNat * s.imgH.toNat ≤ s.cfg.fbSize ∧ stream) ∧
      (i = .fxcDec ∨ i = .fxcEnc → s.fxcMode.toNat < 4 ∧ s.fxcMode.toNat ≠ 3) ∧
      (i = .icnUnpack1 → s.icnCtrl.toNat < 2 ∧ mask ∧ s.palCount.toNat ≤ 256 ∧ stream) ∧
      (i = .icnMono → mask ∧ 4 * s.icnMw.toNat * (s.icnMh.toNat / 2) ≤ s.cfg.fbSize) ∧
      (i = .icnAlpha → mask ∧ dim s.imgW ∧ dim s.imgH ∧ 4 * s.imgW.toNat * s.imgH.toNat ≤ s.cfg.fbSize)
    i.isCommand = true →
      (¬legal → exec i s = .next { s with status := endStatus .errParam {} }) ∧
      (legal → ∃ t, exec i s = .next t ∧ t.status.code ≠ .errParam)

/-- The start-of-command tests (60_exceptions.md R524 to R526), tested after the parameters. -/
def Obligations.StartTestsRaiseTheirErrors : Prop :=
  ∀ s : State, s.run = .idle →
    (monoParamsOk s = true → s.icnMh.toNat % 2 = 1 →
      exec .icnMono s = .next { s with status := endStatus .errOddHeight {} }) ∧
    (alphaParamsOk s = true → s.icnMh.toNat % 2 = 1 →
      exec .icnAlpha s = .next { s with status := endStatus .errOddHeight {} }) ∧
    (s.fxcMode = 2 →
      exec .fxcDec s = .next { s with status := endStatus .errUnsupported {} } ∧
      exec .fxcEnc s = .next { s with status := endStatus .errUnsupported {} }) ∧
    (unpackParamsOk s = true →
      s.inLen.toNat - s.inPos.toNat < ((s.icnMw.toNat + 7) / 8 + 3) / 4 * 4 * s.icnMh.toNat →
      exec .icnUnpack1 s = .next { s with status := endStatus .errShortInput {} })

/-- The encoded runs (43_rle.md R423, R425, R426, R427), the row of the cursor by 20_memory.md R72. RLE24 is there
where HAS_RLE24 is true (log 6). -/
def Obligations.RleRunsDrawTheirPixels : Prop :=
  ∀ (s : State) (n v : Byte), s.run = .rle → n ≠ 0 →
    (s.rleCtrl.toNat % 4 = 0 → ∃ t, exec (.runRle8 n v) s = .next t ∧
      t = { s with fb := t.fb, rleX := BitVec.ofNat 32 (min (s.rleX.toNat + n.toNat) s.imgW.toNat) } ∧
      ∀ a, t.byteAt .fb a = s.drawn n.toNat (fun _ => palette s v) a) ∧
    (s.rleCtrl.toNat % 4 = 1 → ∃ t, exec (.runRle4 n v) s = .next t ∧
      t = { s with fb := t.fb, rleX := BitVec.ofNat 32 (min (s.rleX.toNat + n.toNat) s.imgW.toNat) } ∧
      ∀ a, t.byteAt .fb a =
        s.drawn n.toNat (fun k => palette s (BitVec.ofNat 8 (if k % 2 = 0 then v.toNat / 16 else v.toNat % 16))) a) ∧
    (s.rleCtrl.toNat % 4 = 2 → s.cfg.hasRle24 = true → s.inPos.toNat + 2 ≤ s.inLen.toNat → ∃ t, exec (.runRle24 n v) s = .next t ∧
      t =
        { s with
          inPos := s.inPos + 2, fb := t.fb, rleX := BitVec.ofNat 32 (min (s.rleX.toNat + n.toNat) s.imgW.toNat) } ∧
      ∀ a, t.byteAt .fb a =
        s.drawn n.toNat
          (fun _ =>
            { r := s.byteAt .input (s.inPos.toNat + 1), g := s.byteAt .input s.inPos.toNat, b := v, a := 255 }) a) ∧
    (s.rleCtrl.toNat % 4 = 2 → s.cfg.hasRle24 = true → s.inPos.toNat ≤ s.inLen.toNat → s.inLen.toNat < s.inPos.toNat + 2 →
      exec (.runRle24 n v) s =
        .next { s with inPos := s.inLen, run := .idle, status := endStatus .truncated { hasAlpha := !s.rleCtrl.getLsbD 3 } })

/-- The absolute runs (43_rle.md R431 to R433), complete, the row of the cursor by 20_memory.md R72. RLE24 is there
where HAS_RLE24 is true (log 6). -/
def Obligations.AbsoluteRunsDrawTheirLiterals : Prop :=
  ∀ (s : State) (n : Byte), s.run = .rle → 3 ≤ n.toNat →
    (s.rleCtrl.toNat % 4 = 0 → s.inPos.toNat + (n.toNat + n.toNat % 2) ≤ s.inLen.toNat →
      ∃ t, exec (.absRle8 n) s = .next t ∧
        t =
          { s with
            inPos := BitVec.ofNat 32 (s.inPos.toNat + (n.toNat + n.toNat % 2))
            fb := t.fb
            rleX := BitVec.ofNat 32 (min (s.rleX.toNat + n.toNat) s.imgW.toNat) } ∧
        ∀ a, t.byteAt .fb a = s.drawn n.toNat (fun k => palette s (s.byteAt .input (s.inPos.toNat + k))) a) ∧
    (s.rleCtrl.toNat % 4 = 1 → s.inPos.toNat + ((n.toNat + 1) / 2 + (n.toNat + 1) / 2 % 2) ≤ s.inLen.toNat →
      ∃ t, exec (.absRle4 n) s = .next t ∧
        t =
          { s with
            inPos := BitVec.ofNat 32 (s.inPos.toNat + ((n.toNat + 1) / 2 + (n.toNat + 1) / 2 % 2))
            fb := t.fb
            rleX := BitVec.ofNat 32 (min (s.rleX.toNat + n.toNat) s.imgW.toNat) } ∧
        ∀ a, t.byteAt .fb a =
          s.drawn n.toNat
            (fun k => palette s (BitVec.ofNat 8
              (if k % 2 = 0 then (s.byteAt .input (s.inPos.toNat + k / 2)).toNat / 16
              else (s.byteAt .input (s.inPos.toNat + k / 2)).toNat % 16))) a) ∧
    (s.rleCtrl.toNat % 4 = 2 → s.cfg.hasRle24 = true → s.inPos.toNat + (3 * n.toNat + n.toNat % 2) ≤ s.inLen.toNat →
      ∃ t, exec (.absRle24 n) s = .next t ∧
        t =
          { s with
            inPos := BitVec.ofNat 32 (s.inPos.toNat + (3 * n.toNat + n.toNat % 2))
            fb := t.fb
            rleX := BitVec.ofNat 32 (min (s.rleX.toNat + n.toNat) s.imgW.toNat) } ∧
        ∀ a, t.byteAt .fb a =
          s.drawn n.toNat
            (fun k =>
              { r := s.byteAt .input (s.inPos.toNat + 3 * k + 2), g := s.byteAt .input (s.inPos.toNat + 3 * k + 1)
                b := s.byteAt .input (s.inPos.toNat + 3 * k), a := 255 }) a)

/-- The absolute runs (43_rle.md R431 to R434), cut short, the row of the cursor by 20_memory.md R72. RLE24 is there
where HAS_RLE24 is true (log 6). -/
def Obligations.TruncatedAbsoluteRunsKeepTheirLiterals : Prop :=
  ∀ (s : State) (n : Byte), s.run = .rle → 3 ≤ n.toNat → s.inPos.toNat ≤ s.inLen.toNat →
    let left := s.inLen.toNat - s.inPos.toNat
    let cut := fun (o : Host.Outcome State Fault Refusal) (q : Nat) (px : Nat → Pixel) =>
      ∃ t, o = .next t ∧
        t =
          { s with
            inPos := s.inLen
            fb := t.fb
            rleX := if q = 0 then s.rleX else BitVec.ofNat 32 (min (s.rleX.toNat + q) s.imgW.toNat)
            run := .idle
            status := endStatus .truncated { hasAlpha := !s.rleCtrl.getLsbD 3 } } ∧
        ∀ a, t.byteAt .fb a = s.drawn q px a
    (s.rleCtrl.toNat % 4 = 0 → left < n.toNat + n.toNat % 2 →
      cut (exec (.absRle8 n) s) (min n.toNat left) (fun k => palette s (s.byteAt .input (s.inPos.toNat + k)))) ∧
    (s.rleCtrl.toNat % 4 = 1 → left < (n.toNat + 1) / 2 + (n.toNat + 1) / 2 % 2 →
      cut (exec (.absRle4 n) s) (min n.toNat (2 * left))
        (fun k => palette s (BitVec.ofNat 8
          (if k % 2 = 0 then (s.byteAt .input (s.inPos.toNat + k / 2)).toNat / 16
          else (s.byteAt .input (s.inPos.toNat + k / 2)).toNat % 16)))) ∧
    (s.rleCtrl.toNat % 4 = 2 → s.cfg.hasRle24 = true → left < 3 * n.toNat + n.toNat % 2 →
      cut (exec (.absRle24 n) s) (min n.toNat (left / 3))
        (fun k =>
          { r := s.byteAt .input (s.inPos.toNat + 3 * k + 2), g := s.byteAt .input (s.inPos.toNat + 3 * k + 1)
            b := s.byteAt .input (s.inPos.toNat + 3 * k), a := 255 }))

/-- `EOL`, `EOB` and `DELTA` of an RLE stream (43_rle.md R428 to R430, R434). -/
def Obligations.RleEscapesMoveTheCursorOrEndTheDecode : Prop :=
  ∀ s : State, s.run = .rle →
    exec .rleEol s = .next { s with rleX := 0, rleY := BitVec.ofNat 32 (min (s.rleY.toNat + 1) s.imgH.toNat) } ∧
    exec .eob s = .next { s with run := .idle, status := endStatus .ok { hasAlpha := !s.rleCtrl.getLsbD 3 } } ∧
    (s.inPos.toNat + 2 ≤ s.inLen.toNat →
      exec .delta s =
        .next
          { s with
            inPos := s.inPos + 2
            rleX := BitVec.ofNat 32 (min (s.rleX.toNat + (s.byteAt .input s.inPos.toNat).toNat) s.imgW.toNat)
            rleY := BitVec.ofNat 32
              (min (s.rleY.toNat + (s.byteAt .input (s.inPos.toNat + 1)).toNat) s.imgH.toNat) }) ∧
    (s.inPos.toNat ≤ s.inLen.toNat → s.inLen.toNat < s.inPos.toNat + 2 →
      exec .delta s =
        .next { s with inPos := s.inLen, run := .idle, status := endStatus .truncated { hasAlpha := !s.rleCtrl.getLsbD 3 } })

/-- `RLE.DECODE` as a whole (43_rle.md R421, R424, R429, R434 to R437; 70_reset_and_hazards.md R562). -/
def Obligations.RleDecodeEndsAndTouchesOnlyItsFrame : Prop :=
  ∀ s : State, s.run = .idle → rleParamsOk s = true →
    ∃ t, exec .rleDecode s = .next t ∧
      t = { s with fb := t.fb, inPos := t.inPos, rleX := t.rleX, rleY := t.rleY, status := t.status } ∧
      t.rleX.toNat ≤ s.imgW.toNat ∧ t.rleY.toNat ≤ s.imgH.toNat ∧
      (∀ a, 4 * s.imgW.toNat * s.imgH.toNat ≤ a → t.byteAt .fb a = s.byteAt .fb a) ∧
      (∀ p, p < s.imgW.toNat * s.imgH.toNat →
        t.byteAt .fb (4 * p + 3) = 255 ∨ (s.rleCtrl.getLsbD 3 = false ∧ ∀ c, c < 4 → t.byteAt .fb (4 * p + c) = 0)) ∧
      (s.inPos.toNat ≤ t.inPos.toNat ∧ t.inPos.toNat ≤ s.inLen.toNat) ∧
      ((t.status = endStatus .ok { hasAlpha := !s.rleCtrl.getLsbD 3 } ∧ t.rleY.toNat < s.imgH.toNat ∧
          s.inPos.toNat + 2 ≤ t.inPos.toNat ∧ s.byteAt .input (t.inPos.toNat - 2) = 0 ∧
          s.byteAt .input (t.inPos.toNat - 1) = 1) ∨
        (t.status = endStatus .rowsDone { hasAlpha := !s.rleCtrl.getLsbD 3 } ∧ t.rleY = s.imgH) ∨
        (t.status = endStatus .truncated { hasAlpha := !s.rleCtrl.getLsbD 3 } ∧ t.rleY.toNat < s.imgH.toNat ∧
          t.inPos = s.inLen))

/-- The pre-fill (43_rle.md R421, R437), seen whole on an empty stream (R434). -/
def Obligations.EmptyRleStreamGivesThePrefilledFrame : Prop :=
  ∀ s : State, s.run = .idle → rleParamsOk s = true → s.inPos = s.inLen →
    ∃ t, exec .rleDecode s = .next t ∧
      t = { s with fb := t.fb, rleX := 0, rleY := 0, status := endStatus .truncated { hasAlpha := !s.rleCtrl.getLsbD 3 } } ∧
      (∀ p c, p < s.imgW.toNat * s.imgH.toNat → c < 4 →
        t.byteAt .fb (4 * p + c) =
          if s.rleCtrl.getLsbD 3 = false then 0
          else if s.rleCtrl.toNat % 4 = 2 then [0, 0, 0, 255].getD c 0
          else (palette s 0).bytes.getD c 0) ∧
      ∀ a, 4 * (s.imgW.toNat * s.imgH.toNat) ≤ a → t.byteAt .fb a = s.byteAt .fb a

/-- `CME.NEW ch` (44_color_mask.md R451), the record described by its properties. -/
def Obligations.CmeNewDerivesTheRecord : Prop :=
  ∀ (s : State) (ch : Channel), s.run = .idle →
    ∃ t, exec (.cmeNew ch) s = .next t ∧ t = { s with cm := t.cm, status := endStatus .ok {} } ∧
      (∀ c, c ≠ ch → t.cm.get c = s.cm.get c) ∧
      (s.cmeArg = 0 → t.cm.get ch = { mask := 0, rightShift := 0, scale := 0, present := false, bits := 0 }) ∧
      (s.cmeArg ≠ 0 →
        (t.cm.get ch).mask = s.cmeArg ∧ (t.cm.get ch).present = true ∧
        s.cmeArg.getLsbD (t.cm.get ch).rightShift.toNat = true ∧
        (∀ k, k < (t.cm.get ch).rightShift.toNat → s.cmeArg.getLsbD k = false) ∧
        (t.cm.get ch).bits.toNat = ((List.range 32).filter fun k => s.cmeArg.getLsbD k).length ∧
        (t.cm.get ch).scale.toNat =
          if (t.cm.get ch).bits.toNat < 8 then 256 / 2 ^ (t.cm.get ch).bits.toNat else 1)

/-- `CME.EXTRACT ch` (44_color_mask.md R452). -/
def Obligations.CmeExtractScalesTheMaskedField : Prop :=
  ∀ (s : State) (ch : Channel), s.run = .idle →
    exec (.cmeExtract ch) s =
      .next
        { s with
          cmeRes := BitVec.ofNat 32
            (if (s.cm.get ch).present = false then 255
            else min (min ((s.cmeArg &&& (s.cm.get ch).mask).toNat / 2 ^ (s.cm.get ch).rightShift.toNat) 255 *
              (s.cm.get ch).scale.toNat) 255)
          status := endStatus .ok {} }

/-- `CME.RGBA` (44_color_mask.md R453), over `extract` (R452). -/
def Obligations.CmeRgbaPacksTheFourChannels : Prop :=
  ∀ s : State, s.run = .idle →
    exec .cmeRgba s =
      .next
        { s with
          cmeRes := BitVec.ofNat 32
            ((extract s.cm.r s.cmeArg).toNat + 2 ^ 8 * (extract s.cm.g s.cmeArg).toNat +
              2 ^ 16 * (extract s.cm.b s.cmeArg).toNat + 2 ^ 24 * (extract s.cm.a s.cmeArg).toNat)
          status := endStatus .ok { hasAlpha := s.cm.a.present } } ∧
    ∀ c p, (extract c p).toNat = extractNat c p

/-- The laws of extraction (44_color_mask.md R454). -/
def Obligations.ExtractionIsMonotoneBoundedAndMasked : Prop :=
  ∀ m p q : Word,
    extractNat (colorMask m) p ≤ 255 ∧
    ((p &&& m).toNat / 2 ^ (colorMask m).rightShift.toNat ≤ (q &&& m).toNat / 2 ^ (colorMask m).rightShift.toNat →
      extractNat (colorMask m) p ≤ extractNat (colorMask m) q) ∧
    (p &&& m = q &&& m → extractNat (colorMask m) p = extractNat (colorMask m) q) ∧
    extractNat (colorMask 0) p = 255

/-- Staleness of the channel records (44_color_mask.md R457), over every step. -/
def Obligations.ChannelRecordChangesOnlyByItsCmeNewOrReset : Prop :=
  ∀ (s t : State) (ch : Channel), step s = .next t →
    (∀ rest, s.host ≠ .reset :: rest) →
    (∀ w rest, s.run = .idle → s.host = .wr 0 w :: rest → decodeCommand w ≠ .ok (.cmeNew ch)) →
    t.cm.get ch = s.cm.get ch

/-- `FXC.DEC` (45_s213_converter.md R475), over `srgb8` and `lin8`. -/
def Obligations.FxcDecConvertsEachChannel : Prop :=
  ∀ s : State, s.run = .idle →
    (s.fxcMode.toNat < 2 →
      let f := fun v : BitVec 16 => if s.fxcMode = 0 then (srgb8 v).toNat else (lin8 v).toNat
      exec .fxcDec s =
        .next
          { s with
            fxcRgba := BitVec.ofNat 32
              (f (BitVec.ofNat 16 s.fxcHi.toNat) + 2 ^ 8 * f (BitVec.ofNat 16 (s.fxcLo.toNat / 2 ^ 16)) +
                2 ^ 16 * f (BitVec.ofNat 16 s.fxcLo.toNat) +
                2 ^ 24 * (lin8 (BitVec.ofNat 16 (s.fxcHi.toNat / 2 ^ 16))).toNat)
            status := endStatus .ok { hasAlpha := true } }) ∧
    (s.fxcMode = 2 → exec .fxcDec s = .next { s with status := endStatus .errUnsupported {} }) ∧
    (2 < s.fxcMode.toNat → exec .fxcDec s = .next { s with status := endStatus .errParam {} })

/-- `FXC.ENC` (45_s213_converter.md R486), over the tables `ENC` and `ENCA`. -/
def Obligations.FxcEncConvertsEachChannel : Prop :=
  ∀ s : State, s.run = .idle →
    (s.fxcMode.toNat < 2 →
      let e := fun c : Byte => if s.fxcMode = 0 then (encSrgb c).toNat else (encLinear c).toNat
      exec .fxcEnc s =
        .next
          { s with
            fxcLo := BitVec.ofNat 32
              (e (BitVec.ofNat 8 (s.fxcRgba.toNat / 2 ^ 16)) + 2 ^ 16 * e (BitVec.ofNat 8 (s.fxcRgba.toNat / 2 ^ 8)))
            fxcHi := BitVec.ofNat 32
              (e (BitVec.ofNat 8 s.fxcRgba.toNat) + 2 ^ 16 * (encLinear (BitVec.ofNat 8 (s.fxcRgba.toNat / 2 ^ 24))).toNat)
            status := endStatus .ok {} }) ∧
    (s.fxcMode = 2 → exec .fxcEnc s = .next { s with status := endStatus .errUnsupported {} }) ∧
    (2 < s.fxcMode.toNat → exec .fxcEnc s = .next { s with status := endStatus .errParam {} })

/-- The channel functions against the spec's other description of each (45_s213_converter.md R476, R477, R487). -/
def Obligations.ConverterFunctionsMeetTheirTables : Prop :=
  (∀ v : BitVec 16,
      (srgb8 v).toNat = (thrTable.filter fun k => decide ((k : Int) ≤ v.toInt)).length ∧
      (v.toInt ≤ 0 → lin8 v = 0) ∧ (8192 ≤ v.toInt → lin8 v = 255) ∧
      (0 < v.toInt → v.toInt < 8192 → ((lin8 v).toNat : Int) = (510 * v.toInt + 8192) / 16384)) ∧
    ∀ c : Byte,
      (encLinear c).toNat = (16384 * c.toNat + 255) / 510 ∧
      (c.toNat ≤ 10 → (encSrgb c).toNat = (163840 * c.toNat + 32946) / 65892) ∧
      (11 ≤ c.toNat →
        Nat.mul (Nat.pow (2 * (encSrgb c).toNat - 1) 5) (Nat.pow 269025 12) ≤
          Nat.mul (Nat.pow 16384 5) (Nat.pow (1000 * c.toNat + 14025) 12) ∧
        Nat.mul (Nat.pow 16384 5) (Nat.pow (1000 * c.toNat + 14025) 12) <
          Nat.mul (Nat.pow (2 * (encSrgb c).toNat + 1) 5) (Nat.pow 269025 12))

/-- The round trip of 64-bit pixels (45_s213_converter.md R488(a)). -/
def Obligations.FxcEncThenDecIsTheIdentity : Prop :=
  ∀ s : State, s.run = .idle → s.fxcMode.toNat < 2 →
    ∃ t u, exec .fxcEnc s = .next t ∧ exec .fxcDec t = .next u ∧
      u = { s with fxcLo := t.fxcLo, fxcHi := t.fxcHi, status := endStatus .ok { hasAlpha := true } }

/-- Monotonicity of the converter (45_s213_converter.md R488(c), (d)). -/
def Obligations.ConverterFunctionsAreMonotone : Prop :=
  (∀ v w : BitVec 16, v.toInt ≤ w.toInt → (srgb8 v).toNat ≤ (srgb8 w).toNat ∧ (lin8 v).toNat ≤ (lin8 w).toNat) ∧
    (∀ c d : Byte, c.toNat ≤ d.toNat → (encSrgb c).toNat ≤ (encSrgb d).toNat ∧ (encLinear c).toNat ≤ (encLinear d).toNat) ∧
    ∀ v : BitVec 16, (lin8 v).toNat ≤ (srgb8 v).toNat

/-- `ICN.UNPACK1` (46_icon_mask.md R501; 30_encoding.md R105; 20_memory.md R72, the row written out). -/
def Obligations.IcnUnpackWritesEveryPixelOfTheMask : Prop :=
  ∀ s : State, s.run = .idle → unpackParamsOk s = true →
    ((s.icnMw.toNat + 7) / 8 + 3) / 4 * 4 * s.icnMh.toNat ≤ s.inLen.toNat - s.inPos.toNat →
    ∃ t, exec .icnUnpack1 s = .next t ∧
      t =
        { s with
          inPos := BitVec.ofNat 32 (s.inPos.toNat + ((s.icnMw.toNat + 7) / 8 + 3) / 4 * 4 * s.icnMh.toNat)
          mb := t.mb
          status := endStatus .ok {} } ∧
      (∀ x y c, x < s.icnMw.toNat → y < s.icnMh.toNat → c < 4 →
        t.byteAt .mb (4 * ((if s.icnCtrl.getLsbD 0 then s.icnMh.toNat - 1 - y else y) * s.icnMw.toNat + x) + c) =
          (palette s
            (if (s.byteAt .input (s.inPos.toNat + y * (((s.icnMw.toNat + 7) / 8 + 3) / 4 * 4) + x / 8)).getLsbD (7 - x % 8)
            then 1 else 0)).bytes.getD c 0) ∧
      ∀ a, 4 * s.icnMw.toNat * s.icnMh.toNat ≤ a → t.byteAt .mb a = s.byteAt .mb a

/-- `ICN.MONO` (46_icon_mask.md R502, R503). -/
def Obligations.IcnMonoBuildsTheFrameFromTheTwoHalves : Prop :=
  ∀ s : State, s.run = .idle → monoParamsOk s = true → s.icnMh.toNat % 2 = 0 →
    ∃ t, exec .icnMono s = .next t ∧
      t =
        { s with
          imgW := s.icnMw
          imgH := BitVec.ofNat 32 (s.icnMh.toNat / 2)
          fb := t.fb
          status := endStatus .ok { hasAlpha := true } } ∧
      (∀ x r c, x < s.icnMw.toNat → r < s.icnMh.toNat / 2 → c < 4 →
        t.byteAt .fb ((r * s.icnMw.toNat + x) * 4 + c) =
          if c < 3 then s.byteAt .mb ((r * s.icnMw.toNat + x) * 4)
          else 255 - s.byteAt .mb (((r + s.icnMh.toNat / 2) * s.icnMw.toNat + x) * 4)) ∧
      ∀ a, 4 * s.icnMw.toNat * (s.icnMh.toNat / 2) ≤ a → t.byteAt .fb a = s.byteAt .fb a

/-- `ICN.ALPHA` (46_icon_mask.md R502, R504). -/
def Obligations.IcnAlphaWritesOnlyTheAlphaBytes : Prop :=
  ∀ s : State, s.run = .idle → alphaParamsOk s = true → s.icnMh.toNat % 2 = 0 →
    (s.imgW = s.icnMw → s.imgH.toNat = s.icnMh.toNat / 2 →
      ∃ t, exec .icnAlpha s = .next t ∧
        t = { s with fb := t.fb, status := endStatus .ok { hasAlpha := true } } ∧
        (∀ x r, x < s.imgW.toNat → r < s.imgH.toNat →
          t.byteAt .fb ((r * s.imgW.toNat + x) * 4 + 3) =
            255 - s.byteAt .mb (((r + s.icnMh.toNat / 2) * s.icnMw.toNat + x) * 4)) ∧
        ∀ a, a % 4 ≠ 3 ∨ 4 * s.imgW.toNat * s.imgH.toNat ≤ a → t.byteAt .fb a = s.byteAt .fb a) ∧
    (s.imgW ≠ s.icnMw ∨ s.imgH.toNat ≠ s.icnMh.toNat / 2 →
      exec .icnAlpha s = .next { s with status := endStatus .ok { hasAlpha := true, icnNoop := true } })

/-- Every command ends by `halt` (60_exceptions.md R520; 70_reset_and_hazards.md R562). -/
def Obligations.EveryCommandEnds : Prop :=
  ∀ (i : Instr) (s : State), i.isCommand = true → s.run = .idle →
    ∃ t c f, exec i s = .next t ∧ t.run = .idle ∧ t.status = { busy := false, done := true, code := c, flags := f }

/-- Errors are precise (60_exceptions.md R533, its first sentence). -/
def Obligations.ErrorsArePrecise : Prop :=
  ∀ (i : Instr) (s t : State), i.isCommand = true → s.run = .idle → exec i s = .next t → t.status.code.isError = true →
    t = { s with status := endStatus t.status.code {} }

/-- The stream cursor, and what only the host writes, over every instruction (10_state.md R24; 20_memory.md R62,
R83). IMG_W, IMG_H, FXC_LO, FXC_HI and FXC_RGBA are not among it: some command writes each. -/
def Obligations.NoInstructionLowersInPosOrWritesInPalOrTheTenHostOnlyRegisters : Prop :=
  ∀ (i : Instr) (s t : State), exec i s = .next t →
    t.inMem = s.inMem ∧ t.pal = s.pal ∧ t.inLen = s.inLen ∧ t.palCount = s.palCount ∧ t.g3Width = s.g3Width ∧
    t.g3Ctrl = s.g3Ctrl ∧ t.rleCtrl = s.rleCtrl ∧ t.cmeArg = s.cmeArg ∧ t.fxcMode = s.fxcMode ∧ t.icnMw = s.icnMw ∧
    t.icnMh = s.icnMh ∧ t.icnCtrl = s.icnCtrl ∧ t.host = s.host ∧ t.hostData = s.hostData ∧ t.resets = s.resets ∧
    t.cfg = s.cfg ∧
    (s.inPos.toNat ≤ s.inLen.toNat → s.inPos.toNat ≤ t.inPos.toNat ∧ t.inPos.toNat ≤ s.inLen.toNat)

/-- When a step stops (20_memory.md R60, R61; the faults are the model's choice, log 13; that no command outlives
its bound is 70_reset_and_hazards.md R562, log 20). -/
def Obligations.StepFaultsExactlyOnIllegalHostAccesses : Prop :=
  ∀ s : State,
    (∀ r, step s ≠ .refused r) ∧
    ((∃ f, step s = .fault f) ↔ s.run = .idle ∧ ∃ a rest, s.host = a :: rest ∧ a.legal s.cfg = false)

/-- The canonical form of the memories, a property of the model's representation (log 7). -/
def Obligations.StepKeepsTheMemoriesCanonical : Prop :=
  ∀ s t : State, s.memoriesWf → step s = .next t → t.memoriesWf

/-- The bit-buffer invariant (10_state.md R29). -/
def Obligations.StepKeepsTheBitBufferLegal : Prop :=
  ∀ s t : State, s.bufferLegal → step s = .next t → t.bufferLegal

/-- The channel records (10_state.md R32; 44_color_mask.md R451). -/
def Obligations.StepKeepsTheChannelRecordsDerived : Prop :=
  ∀ s t : State, s.channelsLegal → step s = .next t → t.channelsLegal

/-- The legal values of `PDU_STATUS` (10_state.md R23, R37; 40_g3_huffman.md R156; 46_icon_mask.md R504;
60_exceptions.md R521). That `BUSY` reads 1 inside a command is the model's choice (log 1). -/
def Obligations.StepKeepsTheStatusLegal : Prop :=
  ∀ s t : State, s.statusLegal = true → step s = .next t → t.statusLegal = true

/-- No command computes an address outside its space (20_memory.md R76; 60_exceptions.md R527). -/
def Obligations.StepKeepsAccessesInsideCapacity : Prop :=
  ∀ s t : State, s.withinCapacity → s.progressLegal = true → step s = .next t →
    t.withinCapacity ∧ t.progressLegal = true

/-- The invariants hold at reset (10_state.md R29, R42). The capacities at reset are the model's choice (log 4). -/
def Obligations.ResetStateIsSafe : Prop :=
  State.reset.safe ∧ State.reset.cfg.legal = true

/-- A command is atomic for the host (20_memory.md R80), and it is the run of its tokens (log 1), while no external
reset comes (70_reset_and_hazards.md R550). -/
def Obligations.AtomicCommandIsTheRunOfItsTokens : Prop :=
  ∀ s : State, s.run = .idle → s.host.head? ≠ some .reset →
    (g3ParamsOk s = true → ∃ n, Host.Core.run Sys2Proof.core n (startLine s) = exec .g3Line s ∧
      ∀ k, k < n → ∃ u : State, Host.Core.run Sys2Proof.core k (startLine s) = .next u ∧ u.run ≠ .idle) ∧
    (rleParamsOk s = true → ∃ n, Host.Core.run Sys2Proof.core n (startRle s) = exec .rleDecode s ∧
      ∀ k, k < n → ∃ u : State, Host.Core.run Sys2Proof.core k (startRle s) = .next u ∧ u.run ≠ .idle)

/-- How a line ends without a code word (40_g3_huffman.md R140), and what the scan after an unrecognised code drops
(R139, R148, R149). That a step is one token of a line is the model's choice (log 1). -/
def Obligations.LineEndsWhereNoCodeWordIsRead : Prop :=
  ∀ (s : State) (r : G3Run), s.run = .g3 r → s.host.head? ≠ some .reset → s.bufferLegal →
    s.inPos.toNat ≤ s.inLen.toNat →
    let eol := List.replicate 11 false ++ [true]
    let head := decodeG3 r.color (!r.midRun) (refill s).g3Buf (refill s).g3Bits.toNat
    (r.midRun = false → s.g3Width.toNat ≤ s.g3X.toNat → step s = .next { s with run := .idle, status := endStatus .ok {} }) ∧
    (r.midRun = true ∨ s.g3X.toNat < s.g3Width.toNat →
      (s.pendingBits = [] ∨ head = .error .codeCutShort →
        ∃ t, step s = .next t ∧
          t =
            { s with
              inPos := s.inLen, g3Buf := t.g3Buf, g3Bits := t.g3Bits, run := .idle, status := endStatus .truncated {} } ∧
          t.bufferLegal ∧ t.pendingBits = s.pendingBits) ∧
      (head = .error .unrecognisedCode →
        (∀ dropped rest, s.pendingBits = dropped ++ eol ++ rest →
          (∀ k, k < dropped.length → ¬eol <+: s.pendingBits.drop k) →
          ∃ t, step s = .next t ∧
            t =
              { s with
                inPos := t.inPos, g3Buf := t.g3Buf, g3Bits := t.g3Bits, run := .idle
                status := endStatus .ok { g3Bad := true } } ∧
            t.bufferLegal ∧ t.inPos.toNat ≤ s.inLen.toNat ∧ t.pendingBits = rest) ∧
        ((∀ k, ¬eol <+: s.pendingBits.drop k) →
          step s =
            .next
              { s with
                inPos := s.inLen, g3Buf := 0, g3Bits := 0, run := .idle
                status := endStatus .truncated { g3Bad := true } })))
end

