-- ==== Sys2Proof/Laws/Memory.lean ====
section
/-! SUPPORT. The laws of memory: what a read finds after a write, that every operation keeps the canonical form, and that a
write lists no address but its own. -/

namespace Sys2Proof.Machine

/-! ## Reading after writing -/

@[simp] theorem Memory.read_write_same (m : Memory) (a : Nat) (b : Byte) : (m.write a b).read a = some b := by
  induction m with
  | nil => simp [Memory.write, Memory.read]
  | cons c m ih =>
    obtain ⟨k, d⟩ := c
    by_cases h1 : a < k
    · simp [Memory.write, Memory.read, h1]
    · by_cases h2 : a = k
      · subst h2; simp [Memory.write, Memory.read]
      · have h3 : ¬k = a := fun h => h2 h.symm
        simp [Memory.write, Memory.read, h1, h2, h3, ih]

theorem Memory.read_write_other (m : Memory) {a x : Nat} (b : Byte) (h : x ≠ a) :
    (m.write a b).read x = m.read x := by
  induction m with
  | nil => simp [Memory.write, Memory.read, h.symm]
  | cons c m ih =>
    obtain ⟨k, d⟩ := c
    by_cases h1 : a < k
    · simp [Memory.write, Memory.read, h1, h.symm]
    · by_cases h2 : a = k
      · subst h2; simp [Memory.write, Memory.read, h.symm]
      · simp [Memory.write, Memory.read, h1, h2, ih]

theorem Memory.read_write (m : Memory) (a x : Nat) (b : Byte) :
    (m.write a b).read x = if x = a then some b else m.read x := by
  split
  · subst x; simp
  · exact Memory.read_write_other m b ‹_›

theorem Memory.read_writeBytes (m : Memory) (a x : Nat) (bs : List Byte) :
    (m.writeBytes a bs).read x = if a ≤ x ∧ x < a + bs.length then bs[x - a]? else m.read x := by
  induction bs generalizing m a with
  | nil => simp [Memory.writeBytes]
  | cons b bs ih =>
    rw [Memory.writeBytes, ih, Memory.read_write]
    by_cases hx : x = a
    · subst x; simp
    · by_cases h : a + 1 ≤ x ∧ x < a + 1 + bs.length
      · have h' : a ≤ x ∧ x < a + (b :: bs).length := by simp only [List.length_cons]; omega
        have e : x - a = (x - (a + 1)) + 1 := by omega
        rw [if_pos h, if_pos h', e, List.getElem?_cons_succ]
      · have h' : ¬(a ≤ x ∧ x < a + (b :: bs).length) := by simp only [List.length_cons]; omega
        rw [if_neg h, if_neg h', if_neg hx]

theorem Memory.read_writePixel (m : Memory) (a x : Nat) (p : Pixel) :
    (m.writePixel a p).read x = if a ≤ x ∧ x < a + 4 then p.bytes[x - a]? else m.read x :=
  Memory.read_writeBytes m a x p.bytes

/-! ## The canonical form is kept -/

theorem Memory.mem_write {m : Memory} {a : Nat} {b : Byte} {c : Host.Cell} (h : c ∈ m.write a b) :
    c = (a, b) ∨ c ∈ m := by
  induction m with
  | nil => simpa [Memory.write] using h
  | cons d m ih =>
    obtain ⟨k, e⟩ := d
    unfold Memory.write at h
    split at h
    · simpa using h
    · split at h
      · rcases List.mem_cons.1 h with h | h
        · exact .inl h
        · exact .inr (List.mem_cons_of_mem _ h)
      · rcases List.mem_cons.1 h with h | h
        · exact .inr (h ▸ List.mem_cons_self)
        · exact (ih h).imp id (List.mem_cons_of_mem _)

theorem Memory.wf_write {m : Memory} (h : m.wf) (a : Nat) (b : Byte) : (m.write a b).wf := by
  induction m with
  | nil => simp [Memory.write]
  | cons d m ih =>
    obtain ⟨k, e⟩ := d
    obtain ⟨hk, hm⟩ := List.pairwise_cons.1 h
    unfold Memory.write
    split
    · refine List.pairwise_cons.2 ⟨fun c hc => ?_, h⟩
      rcases List.mem_cons.1 hc with rfl | hc
      · assumption
      · exact Nat.lt_trans ‹a < k› (hk c hc)
    · split
      · subst a; exact List.pairwise_cons.2 ⟨hk, hm⟩
      · refine List.pairwise_cons.2 ⟨fun c hc => ?_, ih hm⟩
        rcases Memory.mem_write hc with rfl | hc
        · show k < a; omega
        · exact hk c hc

theorem Memory.wf_writeBytes {m : Memory} (h : m.wf) (a : Nat) (bs : List Byte) : (m.writeBytes a bs).wf := by
  induction bs generalizing m a with
  | nil => exact h
  | cons b bs ih => exact ih (Memory.wf_write h a b) (a + 1)

theorem Memory.wf_writePixel {m : Memory} (h : m.wf) (a : Nat) (p : Pixel) : (m.writePixel a p).wf :=
  Memory.wf_writeBytes h a p.bytes

/-- The one induction over the loops of the commands: what every turn keeps, the loop keeps. -/
theorem forUpTo_keeps {α : Type} (P : α → Prop) (f : Nat → α → α) :
    ∀ (n : Nat) (x : α), (∀ k, k < n → ∀ y, P y → P (f k y)) → P x → P (forUpTo n f x)
  | 0, _, _, hx => hx
  | n + 1, x, hf, hx =>
    hf n (Nat.lt_succ_self n) _ (forUpTo_keeps P f n x (fun k hk => hf k (Nat.lt_succ_of_lt hk)) hx)

theorem Memory.wf_fillPixels {m : Memory} (h : m.wf) (n : Nat) (p : Pixel) : (m.fillPixels n p).wf :=
  forUpTo_keeps Memory.wf _ n m (fun k _ _ hy => Memory.wf_writePixel hy (4 * k) p) h

/-! ## A write lists only its own addresses -/

theorem Memory.bounded_write {m : Memory} {n a : Nat} (h : ∀ c ∈ m, c.1 < n) (ha : a < n) (b : Byte) :
    ∀ c ∈ m.write a b, c.1 < n := by
  intro c hc
  rcases Memory.mem_write hc with rfl | hc
  · exact ha
  · exact h c hc

theorem Memory.bounded_writeBytes {m : Memory} {n a : Nat} {bs : List Byte} (h : ∀ c ∈ m, c.1 < n)
    (ha : a + bs.length ≤ n) : ∀ c ∈ m.writeBytes a bs, c.1 < n := by
  induction bs generalizing m a with
  | nil => exact h
  | cons b bs ih =>
    simp only [List.length_cons] at ha
    exact ih (Memory.bounded_write h (by omega) b) (by omega)

theorem Memory.bounded_writePixel {m : Memory} {n a : Nat} (h : ∀ c ∈ m, c.1 < n) (ha : a + 4 ≤ n) (p : Pixel) :
    ∀ c ∈ m.writePixel a p, c.1 < n :=
  Memory.bounded_writeBytes h ha

/-! ## Two memories that read alike -/

/-- In canonical form the list is determined by what its addresses read. -/
theorem Memory.ext_read {m n : Memory} (hm : m.wf) (hn : n.wf) (h : ∀ a, m.read a = n.read a) : m = n := by
  have low : ∀ (l : Memory) (x : Nat), (∀ c ∈ l, x < c.1) → l.read x = none := by
    intro l x hl
    induction l with
    | nil => rfl
    | cons c l ih =>
      obtain ⟨k, d⟩ := c
      have hk : x < k := hl (k, d) List.mem_cons_self
      rw [Memory.read, if_neg (by omega)]
      exact ih fun c hc => hl c (List.mem_cons_of_mem _ hc)
  induction m generalizing n with
  | nil =>
    cases n with
    | nil => rfl
    | cons c n => have := h c.1; simp [Memory.read] at this
  | cons c m ih =>
    obtain ⟨k, d⟩ := c
    obtain ⟨hk, hm⟩ := List.pairwise_cons.1 hm
    cases n with
    | nil => have := h k; simp [Memory.read] at this
    | cons e n =>
      obtain ⟨j, f⟩ := e
      obtain ⟨hj, hn'⟩ := List.pairwise_cons.1 hn
      have hkj : k = j := by
        rcases Nat.lt_trichotomy k j with hlt | heq | hlt
        · have := h k
          rw [low ((j, f) :: n) k (fun c hc => ?_)] at this
          · simp [Memory.read] at this
          · rcases List.mem_cons.1 hc with rfl | hc
            · exact hlt
            · exact Nat.lt_trans hlt (hj c hc)
        · exact heq
        · have := h j
          rw [low ((k, d) :: m) j (fun c hc => ?_)] at this
          · simp [Memory.read] at this
          · rcases List.mem_cons.1 hc with rfl | hc
            · exact hlt
            · exact Nat.lt_trans hlt (hk c hc)
      subst j
      have hdf : d = f := by have := h k; simpa [Memory.read] using this
      subst f
      congr 1
      refine ih hm hn' fun a => ?_
      by_cases ha : k = a
      · subst a; rw [low m k hk, low n k hj]
      · have := h a; simpa [Memory.read, ha] using this

end Sys2Proof.Machine
end

