-- ==== Sys2Proof/Laws/State.lean ====
section
/-! SUPPORT. One lemma per field of the state per shared update, true by definition, so that no later proof unfolds a record
update. -/

namespace Sys2Proof.Machine

/-! ## `halt` -/

@[simp] theorem halt_status (c : ResultCode) (f : ResultFlags) (s : State) :
    (halt c f s).status = { busy := false, done := true, code := c, flags := f } :=
  rfl
@[simp] theorem halt_inPos (c : ResultCode) (f : ResultFlags) (s : State) : (halt c f s).inPos = s.inPos := rfl
@[simp] theorem halt_inLen (c : ResultCode) (f : ResultFlags) (s : State) : (halt c f s).inLen = s.inLen := rfl
@[simp] theorem halt_imgW (c : ResultCode) (f : ResultFlags) (s : State) : (halt c f s).imgW = s.imgW := rfl
@[simp] theorem halt_imgH (c : ResultCode) (f : ResultFlags) (s : State) : (halt c f s).imgH = s.imgH := rfl
@[simp] theorem halt_palCount (c : ResultCode) (f : ResultFlags) (s : State) : (halt c f s).palCount = s.palCount := rfl
@[simp] theorem halt_g3Width (c : ResultCode) (f : ResultFlags) (s : State) : (halt c f s).g3Width = s.g3Width := rfl
@[simp] theorem halt_g3Ctrl (c : ResultCode) (f : ResultFlags) (s : State) : (halt c f s).g3Ctrl = s.g3Ctrl := rfl
@[simp] theorem halt_g3Buf (c : ResultCode) (f : ResultFlags) (s : State) : (halt c f s).g3Buf = s.g3Buf := rfl
@[simp] theorem halt_g3Bits (c : ResultCode) (f : ResultFlags) (s : State) : (halt c f s).g3Bits = s.g3Bits := rfl
@[simp] theorem halt_g3X (c : ResultCode) (f : ResultFlags) (s : State) : (halt c f s).g3X = s.g3X := rfl
@[simp] theorem halt_rleCtrl (c : ResultCode) (f : ResultFlags) (s : State) : (halt c f s).rleCtrl = s.rleCtrl := rfl
@[simp] theorem halt_rleX (c : ResultCode) (f : ResultFlags) (s : State) : (halt c f s).rleX = s.rleX := rfl
@[simp] theorem halt_rleY (c : ResultCode) (f : ResultFlags) (s : State) : (halt c f s).rleY = s.rleY := rfl
@[simp] theorem halt_cmeArg (c : ResultCode) (f : ResultFlags) (s : State) : (halt c f s).cmeArg = s.cmeArg := rfl
@[simp] theorem halt_cmeRes (c : ResultCode) (f : ResultFlags) (s : State) : (halt c f s).cmeRes = s.cmeRes := rfl
@[simp] theorem halt_cm (c : ResultCode) (f : ResultFlags) (s : State) : (halt c f s).cm = s.cm := rfl
@[simp] theorem halt_fxcMode (c : ResultCode) (f : ResultFlags) (s : State) : (halt c f s).fxcMode = s.fxcMode := rfl
@[simp] theorem halt_fxcLo (c : ResultCode) (f : ResultFlags) (s : State) : (halt c f s).fxcLo = s.fxcLo := rfl
@[simp] theorem halt_fxcHi (c : ResultCode) (f : ResultFlags) (s : State) : (halt c f s).fxcHi = s.fxcHi := rfl
@[simp] theorem halt_fxcRgba (c : ResultCode) (f : ResultFlags) (s : State) : (halt c f s).fxcRgba = s.fxcRgba := rfl
@[simp] theorem halt_icnMw (c : ResultCode) (f : ResultFlags) (s : State) : (halt c f s).icnMw = s.icnMw := rfl
@[simp] theorem halt_icnMh (c : ResultCode) (f : ResultFlags) (s : State) : (halt c f s).icnMh = s.icnMh := rfl
@[simp] theorem halt_icnCtrl (c : ResultCode) (f : ResultFlags) (s : State) : (halt c f s).icnCtrl = s.icnCtrl := rfl
@[simp] theorem halt_inMem (c : ResultCode) (f : ResultFlags) (s : State) : (halt c f s).inMem = s.inMem := rfl
@[simp] theorem halt_pal (c : ResultCode) (f : ResultFlags) (s : State) : (halt c f s).pal = s.pal := rfl
@[simp] theorem halt_lb (c : ResultCode) (f : ResultFlags) (s : State) : (halt c f s).lb = s.lb := rfl
@[simp] theorem halt_mb (c : ResultCode) (f : ResultFlags) (s : State) : (halt c f s).mb = s.mb := rfl
@[simp] theorem halt_fb (c : ResultCode) (f : ResultFlags) (s : State) : (halt c f s).fb = s.fb := rfl
@[simp] theorem halt_run (c : ResultCode) (f : ResultFlags) (s : State) : (halt c f s).run = .idle := rfl
@[simp] theorem halt_host (c : ResultCode) (f : ResultFlags) (s : State) : (halt c f s).host = s.host := rfl
@[simp] theorem halt_hostData (c : ResultCode) (f : ResultFlags) (s : State) : (halt c f s).hostData = s.hostData := rfl
@[simp] theorem halt_resets (c : ResultCode) (f : ResultFlags) (s : State) : (halt c f s).resets = s.resets := rfl
@[simp] theorem halt_cfg (c : ResultCode) (f : ResultFlags) (s : State) : (halt c f s).cfg = s.cfg := rfl

/-! ## `raise` -/

@[simp] theorem raise_status (c : ResultCode) (s : State) :
    (raise c s).status = { busy := false, done := true, code := c, flags := {} } :=
  rfl
@[simp] theorem raise_inPos (c : ResultCode) (s : State) : (raise c s).inPos = s.inPos := rfl
@[simp] theorem raise_inLen (c : ResultCode) (s : State) : (raise c s).inLen = s.inLen := rfl
@[simp] theorem raise_imgW (c : ResultCode) (s : State) : (raise c s).imgW = s.imgW := rfl
@[simp] theorem raise_imgH (c : ResultCode) (s : State) : (raise c s).imgH = s.imgH := rfl
@[simp] theorem raise_palCount (c : ResultCode) (s : State) : (raise c s).palCount = s.palCount := rfl
@[simp] theorem raise_g3Width (c : ResultCode) (s : State) : (raise c s).g3Width = s.g3Width := rfl
@[simp] theorem raise_g3Ctrl (c : ResultCode) (s : State) : (raise c s).g3Ctrl = s.g3Ctrl := rfl
@[simp] theorem raise_g3Buf (c : ResultCode) (s : State) : (raise c s).g3Buf = s.g3Buf := rfl
@[simp] theorem raise_g3Bits (c : ResultCode) (s : State) : (raise c s).g3Bits = s.g3Bits := rfl
@[simp] theorem raise_g3X (c : ResultCode) (s : State) : (raise c s).g3X = s.g3X := rfl
@[simp] theorem raise_rleCtrl (c : ResultCode) (s : State) : (raise c s).rleCtrl = s.rleCtrl := rfl
@[simp] theorem raise_rleX (c : ResultCode) (s : State) : (raise c s).rleX = s.rleX := rfl
@[simp] theorem raise_rleY (c : ResultCode) (s : State) : (raise c s).rleY = s.rleY := rfl
@[simp] theorem raise_cmeArg (c : ResultCode) (s : State) : (raise c s).cmeArg = s.cmeArg := rfl
@[simp] theorem raise_cmeRes (c : ResultCode) (s : State) : (raise c s).cmeRes = s.cmeRes := rfl
@[simp] theorem raise_cm (c : ResultCode) (s : State) : (raise c s).cm = s.cm := rfl
@[simp] theorem raise_fxcMode (c : ResultCode) (s : State) : (raise c s).fxcMode = s.fxcMode := rfl
@[simp] theorem raise_fxcLo (c : ResultCode) (s : State) : (raise c s).fxcLo = s.fxcLo := rfl
@[simp] theorem raise_fxcHi (c : ResultCode) (s : State) : (raise c s).fxcHi = s.fxcHi := rfl
@[simp] theorem raise_fxcRgba (c : ResultCode) (s : State) : (raise c s).fxcRgba = s.fxcRgba := rfl
@[simp] theorem raise_icnMw (c : ResultCode) (s : State) : (raise c s).icnMw = s.icnMw := rfl
@[simp] theorem raise_icnMh (c : ResultCode) (s : State) : (raise c s).icnMh = s.icnMh := rfl
@[simp] theorem raise_icnCtrl (c : ResultCode) (s : State) : (raise c s).icnCtrl = s.icnCtrl := rfl
@[simp] theorem raise_inMem (c : ResultCode) (s : State) : (raise c s).inMem = s.inMem := rfl
@[simp] theorem raise_pal (c : ResultCode) (s : State) : (raise c s).pal = s.pal := rfl
@[simp] theorem raise_lb (c : ResultCode) (s : State) : (raise c s).lb = s.lb := rfl
@[simp] theorem raise_mb (c : ResultCode) (s : State) : (raise c s).mb = s.mb := rfl
@[simp] theorem raise_fb (c : ResultCode) (s : State) : (raise c s).fb = s.fb := rfl
@[simp] theorem raise_run (c : ResultCode) (s : State) : (raise c s).run = .idle := rfl
@[simp] theorem raise_host (c : ResultCode) (s : State) : (raise c s).host = s.host := rfl
@[simp] theorem raise_hostData (c : ResultCode) (s : State) : (raise c s).hostData = s.hostData := rfl
@[simp] theorem raise_resets (c : ResultCode) (s : State) : (raise c s).resets = s.resets := rfl
@[simp] theorem raise_cfg (c : ResultCode) (s : State) : (raise c s).cfg = s.cfg := rfl

/-! ## `beginCommand` -/

@[simp] theorem beginCommand_status (r : Running) (s : State) :
    (beginCommand r s).status = { s.status with busy := true } :=
  rfl
@[simp] theorem beginCommand_inPos (r : Running) (s : State) : (beginCommand r s).inPos = s.inPos := rfl
@[simp] theorem beginCommand_inLen (r : Running) (s : State) : (beginCommand r s).inLen = s.inLen := rfl
@[simp] theorem beginCommand_imgW (r : Running) (s : State) : (beginCommand r s).imgW = s.imgW := rfl
@[simp] theorem beginCommand_imgH (r : Running) (s : State) : (beginCommand r s).imgH = s.imgH := rfl
@[simp] theorem beginCommand_palCount (r : Running) (s : State) : (beginCommand r s).palCount = s.palCount := rfl
@[simp] theorem beginCommand_g3Width (r : Running) (s : State) : (beginCommand r s).g3Width = s.g3Width := rfl
@[simp] theorem beginCommand_g3Ctrl (r : Running) (s : State) : (beginCommand r s).g3Ctrl = s.g3Ctrl := rfl
@[simp] theorem beginCommand_g3Buf (r : Running) (s : State) : (beginCommand r s).g3Buf = s.g3Buf := rfl
@[simp] theorem beginCommand_g3Bits (r : Running) (s : State) : (beginCommand r s).g3Bits = s.g3Bits := rfl
@[simp] theorem beginCommand_g3X (r : Running) (s : State) : (beginCommand r s).g3X = s.g3X := rfl
@[simp] theorem beginCommand_rleCtrl (r : Running) (s : State) : (beginCommand r s).rleCtrl = s.rleCtrl := rfl
@[simp] theorem beginCommand_rleX (r : Running) (s : State) : (beginCommand r s).rleX = s.rleX := rfl
@[simp] theorem beginCommand_rleY (r : Running) (s : State) : (beginCommand r s).rleY = s.rleY := rfl
@[simp] theorem beginCommand_cmeArg (r : Running) (s : State) : (beginCommand r s).cmeArg = s.cmeArg := rfl
@[simp] theorem beginCommand_cmeRes (r : Running) (s : State) : (beginCommand r s).cmeRes = s.cmeRes := rfl
@[simp] theorem beginCommand_cm (r : Running) (s : State) : (beginCommand r s).cm = s.cm := rfl
@[simp] theorem beginCommand_fxcMode (r : Running) (s : State) : (beginCommand r s).fxcMode = s.fxcMode := rfl
@[simp] theorem beginCommand_fxcLo (r : Running) (s : State) : (beginCommand r s).fxcLo = s.fxcLo := rfl
@[simp] theorem beginCommand_fxcHi (r : Running) (s : State) : (beginCommand r s).fxcHi = s.fxcHi := rfl
@[simp] theorem beginCommand_fxcRgba (r : Running) (s : State) : (beginCommand r s).fxcRgba = s.fxcRgba := rfl
@[simp] theorem beginCommand_icnMw (r : Running) (s : State) : (beginCommand r s).icnMw = s.icnMw := rfl
@[simp] theorem beginCommand_icnMh (r : Running) (s : State) : (beginCommand r s).icnMh = s.icnMh := rfl
@[simp] theorem beginCommand_icnCtrl (r : Running) (s : State) : (beginCommand r s).icnCtrl = s.icnCtrl := rfl
@[simp] theorem beginCommand_inMem (r : Running) (s : State) : (beginCommand r s).inMem = s.inMem := rfl
@[simp] theorem beginCommand_pal (r : Running) (s : State) : (beginCommand r s).pal = s.pal := rfl
@[simp] theorem beginCommand_lb (r : Running) (s : State) : (beginCommand r s).lb = s.lb := rfl
@[simp] theorem beginCommand_mb (r : Running) (s : State) : (beginCommand r s).mb = s.mb := rfl
@[simp] theorem beginCommand_fb (r : Running) (s : State) : (beginCommand r s).fb = s.fb := rfl
@[simp] theorem beginCommand_run (r : Running) (s : State) : (beginCommand r s).run = r := rfl
@[simp] theorem beginCommand_host (r : Running) (s : State) : (beginCommand r s).host = s.host := rfl
@[simp] theorem beginCommand_hostData (r : Running) (s : State) : (beginCommand r s).hostData = s.hostData := rfl
@[simp] theorem beginCommand_resets (r : Running) (s : State) : (beginCommand r s).resets = s.resets := rfl
@[simp] theorem beginCommand_cfg (r : Running) (s : State) : (beginCommand r s).cfg = s.cfg := rfl

/-! ## `consume` -/

@[simp] theorem consume_status (k : Nat) (s : State) : (consume k s).status = s.status := rfl
@[simp] theorem consume_inPos (k : Nat) (s : State) : (consume k s).inPos = s.inPos := rfl
@[simp] theorem consume_inLen (k : Nat) (s : State) : (consume k s).inLen = s.inLen := rfl
@[simp] theorem consume_imgW (k : Nat) (s : State) : (consume k s).imgW = s.imgW := rfl
@[simp] theorem consume_imgH (k : Nat) (s : State) : (consume k s).imgH = s.imgH := rfl
@[simp] theorem consume_palCount (k : Nat) (s : State) : (consume k s).palCount = s.palCount := rfl
@[simp] theorem consume_g3Width (k : Nat) (s : State) : (consume k s).g3Width = s.g3Width := rfl
@[simp] theorem consume_g3Ctrl (k : Nat) (s : State) : (consume k s).g3Ctrl = s.g3Ctrl := rfl
@[simp] theorem consume_g3Buf (k : Nat) (s : State) : (consume k s).g3Buf = s.g3Buf <<< k := rfl
@[simp] theorem consume_g3Bits (k : Nat) (s : State) : (consume k s).g3Bits = BitVec.ofNat 6 (s.g3Bits.toNat - k) := rfl
@[simp] theorem consume_g3X (k : Nat) (s : State) : (consume k s).g3X = s.g3X := rfl
@[simp] theorem consume_rleCtrl (k : Nat) (s : State) : (consume k s).rleCtrl = s.rleCtrl := rfl
@[simp] theorem consume_rleX (k : Nat) (s : State) : (consume k s).rleX = s.rleX := rfl
@[simp] theorem consume_rleY (k : Nat) (s : State) : (consume k s).rleY = s.rleY := rfl
@[simp] theorem consume_cmeArg (k : Nat) (s : State) : (consume k s).cmeArg = s.cmeArg := rfl
@[simp] theorem consume_cmeRes (k : Nat) (s : State) : (consume k s).cmeRes = s.cmeRes := rfl
@[simp] theorem consume_cm (k : Nat) (s : State) : (consume k s).cm = s.cm := rfl
@[simp] theorem consume_fxcMode (k : Nat) (s : State) : (consume k s).fxcMode = s.fxcMode := rfl
@[simp] theorem consume_fxcLo (k : Nat) (s : State) : (consume k s).fxcLo = s.fxcLo := rfl
@[simp] theorem consume_fxcHi (k : Nat) (s : State) : (consume k s).fxcHi = s.fxcHi := rfl
@[simp] theorem consume_fxcRgba (k : Nat) (s : State) : (consume k s).fxcRgba = s.fxcRgba := rfl
@[simp] theorem consume_icnMw (k : Nat) (s : State) : (consume k s).icnMw = s.icnMw := rfl
@[simp] theorem consume_icnMh (k : Nat) (s : State) : (consume k s).icnMh = s.icnMh := rfl
@[simp] theorem consume_icnCtrl (k : Nat) (s : State) : (consume k s).icnCtrl = s.icnCtrl := rfl
@[simp] theorem consume_inMem (k : Nat) (s : State) : (consume k s).inMem = s.inMem := rfl
@[simp] theorem consume_pal (k : Nat) (s : State) : (consume k s).pal = s.pal := rfl
@[simp] theorem consume_lb (k : Nat) (s : State) : (consume k s).lb = s.lb := rfl
@[simp] theorem consume_mb (k : Nat) (s : State) : (consume k s).mb = s.mb := rfl
@[simp] theorem consume_fb (k : Nat) (s : State) : (consume k s).fb = s.fb := rfl
@[simp] theorem consume_run (k : Nat) (s : State) : (consume k s).run = s.run := rfl
@[simp] theorem consume_host (k : Nat) (s : State) : (consume k s).host = s.host := rfl
@[simp] theorem consume_hostData (k : Nat) (s : State) : (consume k s).hostData = s.hostData := rfl
@[simp] theorem consume_resets (k : Nat) (s : State) : (consume k s).resets = s.resets := rfl
@[simp] theorem consume_cfg (k : Nat) (s : State) : (consume k s).cfg = s.cfg := rfl

/-! ## `emptyBuffer` -/

@[simp] theorem emptyBuffer_status (s : State) : (emptyBuffer s).status = s.status := rfl
@[simp] theorem emptyBuffer_inPos (s : State) : (emptyBuffer s).inPos = s.inPos := rfl
@[simp] theorem emptyBuffer_inLen (s : State) : (emptyBuffer s).inLen = s.inLen := rfl
@[simp] theorem emptyBuffer_imgW (s : State) : (emptyBuffer s).imgW = s.imgW := rfl
@[simp] theorem emptyBuffer_imgH (s : State) : (emptyBuffer s).imgH = s.imgH := rfl
@[simp] theorem emptyBuffer_palCount (s : State) : (emptyBuffer s).palCount = s.palCount := rfl
@[simp] theorem emptyBuffer_g3Width (s : State) : (emptyBuffer s).g3Width = s.g3Width := rfl
@[simp] theorem emptyBuffer_g3Ctrl (s : State) : (emptyBuffer s).g3Ctrl = s.g3Ctrl := rfl
@[simp] theorem emptyBuffer_g3Buf (s : State) : (emptyBuffer s).g3Buf = 0 := rfl
@[simp] theorem emptyBuffer_g3Bits (s : State) : (emptyBuffer s).g3Bits = 0 := rfl
@[simp] theorem emptyBuffer_g3X (s : State) : (emptyBuffer s).g3X = s.g3X := rfl
@[simp] theorem emptyBuffer_rleCtrl (s : State) : (emptyBuffer s).rleCtrl = s.rleCtrl := rfl
@[simp] theorem emptyBuffer_rleX (s : State) : (emptyBuffer s).rleX = s.rleX := rfl
@[simp] theorem emptyBuffer_rleY (s : State) : (emptyBuffer s).rleY = s.rleY := rfl
@[simp] theorem emptyBuffer_cmeArg (s : State) : (emptyBuffer s).cmeArg = s.cmeArg := rfl
@[simp] theorem emptyBuffer_cmeRes (s : State) : (emptyBuffer s).cmeRes = s.cmeRes := rfl
@[simp] theorem emptyBuffer_cm (s : State) : (emptyBuffer s).cm = s.cm := rfl
@[simp] theorem emptyBuffer_fxcMode (s : State) : (emptyBuffer s).fxcMode = s.fxcMode := rfl
@[simp] theorem emptyBuffer_fxcLo (s : State) : (emptyBuffer s).fxcLo = s.fxcLo := rfl
@[simp] theorem emptyBuffer_fxcHi (s : State) : (emptyBuffer s).fxcHi = s.fxcHi := rfl
@[simp] theorem emptyBuffer_fxcRgba (s : State) : (emptyBuffer s).fxcRgba = s.fxcRgba := rfl
@[simp] theorem emptyBuffer_icnMw (s : State) : (emptyBuffer s).icnMw = s.icnMw := rfl
@[simp] theorem emptyBuffer_icnMh (s : State) : (emptyBuffer s).icnMh = s.icnMh := rfl
@[simp] theorem emptyBuffer_icnCtrl (s : State) : (emptyBuffer s).icnCtrl = s.icnCtrl := rfl
@[simp] theorem emptyBuffer_inMem (s : State) : (emptyBuffer s).inMem = s.inMem := rfl
@[simp] theorem emptyBuffer_pal (s : State) : (emptyBuffer s).pal = s.pal := rfl
@[simp] theorem emptyBuffer_lb (s : State) : (emptyBuffer s).lb = s.lb := rfl
@[simp] theorem emptyBuffer_mb (s : State) : (emptyBuffer s).mb = s.mb := rfl
@[simp] theorem emptyBuffer_fb (s : State) : (emptyBuffer s).fb = s.fb := rfl
@[simp] theorem emptyBuffer_run (s : State) : (emptyBuffer s).run = s.run := rfl
@[simp] theorem emptyBuffer_host (s : State) : (emptyBuffer s).host = s.host := rfl
@[simp] theorem emptyBuffer_hostData (s : State) : (emptyBuffer s).hostData = s.hostData := rfl
@[simp] theorem emptyBuffer_resets (s : State) : (emptyBuffer s).resets = s.resets := rfl
@[simp] theorem emptyBuffer_cfg (s : State) : (emptyBuffer s).cfg = s.cfg := rfl

/-! ## `endRun` -/

@[simp] theorem endRun_status (c : Color) (n : Nat) (s : State) : (endRun c n s).status = s.status := rfl
@[simp] theorem endRun_inPos (c : Color) (n : Nat) (s : State) : (endRun c n s).inPos = s.inPos := rfl
@[simp] theorem endRun_inLen (c : Color) (n : Nat) (s : State) : (endRun c n s).inLen = s.inLen := rfl
@[simp] theorem endRun_imgW (c : Color) (n : Nat) (s : State) : (endRun c n s).imgW = s.imgW := rfl
@[simp] theorem endRun_imgH (c : Color) (n : Nat) (s : State) : (endRun c n s).imgH = s.imgH := rfl
@[simp] theorem endRun_palCount (c : Color) (n : Nat) (s : State) : (endRun c n s).palCount = s.palCount := rfl
@[simp] theorem endRun_g3Width (c : Color) (n : Nat) (s : State) : (endRun c n s).g3Width = s.g3Width := rfl
@[simp] theorem endRun_g3Ctrl (c : Color) (n : Nat) (s : State) : (endRun c n s).g3Ctrl = s.g3Ctrl := rfl
@[simp] theorem endRun_g3Buf (c : Color) (n : Nat) (s : State) : (endRun c n s).g3Buf = s.g3Buf := rfl
@[simp] theorem endRun_g3Bits (c : Color) (n : Nat) (s : State) : (endRun c n s).g3Bits = s.g3Bits := rfl
@[simp] theorem endRun_g3X (c : Color) (n : Nat) (s : State) :
    (endRun c n s).g3X = BitVec.ofNat 32 (s.g3X.toNat + fillCount s n) :=
  rfl
@[simp] theorem endRun_rleCtrl (c : Color) (n : Nat) (s : State) : (endRun c n s).rleCtrl = s.rleCtrl := rfl
@[simp] theorem endRun_rleX (c : Color) (n : Nat) (s : State) : (endRun c n s).rleX = s.rleX := rfl
@[simp] theorem endRun_rleY (c : Color) (n : Nat) (s : State) : (endRun c n s).rleY = s.rleY := rfl
@[simp] theorem endRun_cmeArg (c : Color) (n : Nat) (s : State) : (endRun c n s).cmeArg = s.cmeArg := rfl
@[simp] theorem endRun_cmeRes (c : Color) (n : Nat) (s : State) : (endRun c n s).cmeRes = s.cmeRes := rfl
@[simp] theorem endRun_cm (c : Color) (n : Nat) (s : State) : (endRun c n s).cm = s.cm := rfl
@[simp] theorem endRun_fxcMode (c : Color) (n : Nat) (s : State) : (endRun c n s).fxcMode = s.fxcMode := rfl
@[simp] theorem endRun_fxcLo (c : Color) (n : Nat) (s : State) : (endRun c n s).fxcLo = s.fxcLo := rfl
@[simp] theorem endRun_fxcHi (c : Color) (n : Nat) (s : State) : (endRun c n s).fxcHi = s.fxcHi := rfl
@[simp] theorem endRun_fxcRgba (c : Color) (n : Nat) (s : State) : (endRun c n s).fxcRgba = s.fxcRgba := rfl
@[simp] theorem endRun_icnMw (c : Color) (n : Nat) (s : State) : (endRun c n s).icnMw = s.icnMw := rfl
@[simp] theorem endRun_icnMh (c : Color) (n : Nat) (s : State) : (endRun c n s).icnMh = s.icnMh := rfl
@[simp] theorem endRun_icnCtrl (c : Color) (n : Nat) (s : State) : (endRun c n s).icnCtrl = s.icnCtrl := rfl
@[simp] theorem endRun_inMem (c : Color) (n : Nat) (s : State) : (endRun c n s).inMem = s.inMem := rfl
@[simp] theorem endRun_pal (c : Color) (n : Nat) (s : State) : (endRun c n s).pal = s.pal := rfl
@[simp] theorem endRun_lb (c : Color) (n : Nat) (s : State) :
    (endRun c n s).lb = fillLine s.g3X.toNat (fillCount s n) (pixelLevel s c) s.lb :=
  rfl
@[simp] theorem endRun_mb (c : Color) (n : Nat) (s : State) : (endRun c n s).mb = s.mb := rfl
@[simp] theorem endRun_fb (c : Color) (n : Nat) (s : State) : (endRun c n s).fb = s.fb := rfl
@[simp] theorem endRun_run (c : Color) (n : Nat) (s : State) :
    (endRun c n s).run = .g3 { color := otherColor c, acc := 0, midRun := false } :=
  rfl
@[simp] theorem endRun_host (c : Color) (n : Nat) (s : State) : (endRun c n s).host = s.host := rfl
@[simp] theorem endRun_hostData (c : Color) (n : Nat) (s : State) : (endRun c n s).hostData = s.hostData := rfl
@[simp] theorem endRun_resets (c : Color) (n : Nat) (s : State) : (endRun c n s).resets = s.resets := rfl
@[simp] theorem endRun_cfg (c : Color) (n : Nat) (s : State) : (endRun c n s).cfg = s.cfg := rfl

/-! ## `makeup` -/

@[simp] theorem makeup_status (len n : Nat) (r : G3Run) (s : State) : (makeup len n r s).status = s.status := rfl
@[simp] theorem makeup_inPos (len n : Nat) (r : G3Run) (s : State) : (makeup len n r s).inPos = s.inPos := rfl
@[simp] theorem makeup_inLen (len n : Nat) (r : G3Run) (s : State) : (makeup len n r s).inLen = s.inLen := rfl
@[simp] theorem makeup_imgW (len n : Nat) (r : G3Run) (s : State) : (makeup len n r s).imgW = s.imgW := rfl
@[simp] theorem makeup_imgH (len n : Nat) (r : G3Run) (s : State) : (makeup len n r s).imgH = s.imgH := rfl
@[simp] theorem makeup_palCount (len n : Nat) (r : G3Run) (s : State) : (makeup len n r s).palCount = s.palCount := rfl
@[simp] theorem makeup_g3Width (len n : Nat) (r : G3Run) (s : State) : (makeup len n r s).g3Width = s.g3Width := rfl
@[simp] theorem makeup_g3Ctrl (len n : Nat) (r : G3Run) (s : State) : (makeup len n r s).g3Ctrl = s.g3Ctrl := rfl
@[simp] theorem makeup_g3Buf (len n : Nat) (r : G3Run) (s : State) : (makeup len n r s).g3Buf = s.g3Buf <<< len := rfl
@[simp] theorem makeup_g3Bits (len n : Nat) (r : G3Run) (s : State) :
    (makeup len n r s).g3Bits = BitVec.ofNat 6 (s.g3Bits.toNat - len) :=
  rfl
@[simp] theorem makeup_g3X (len n : Nat) (r : G3Run) (s : State) : (makeup len n r s).g3X = s.g3X := rfl
@[simp] theorem makeup_rleCtrl (len n : Nat) (r : G3Run) (s : State) : (makeup len n r s).rleCtrl = s.rleCtrl := rfl
@[simp] theorem makeup_rleX (len n : Nat) (r : G3Run) (s : State) : (makeup len n r s).rleX = s.rleX := rfl
@[simp] theorem makeup_rleY (len n : Nat) (r : G3Run) (s : State) : (makeup len n r s).rleY = s.rleY := rfl
@[simp] theorem makeup_cmeArg (len n : Nat) (r : G3Run) (s : State) : (makeup len n r s).cmeArg = s.cmeArg := rfl
@[simp] theorem makeup_cmeRes (len n : Nat) (r : G3Run) (s : State) : (makeup len n r s).cmeRes = s.cmeRes := rfl
@[simp] theorem makeup_cm (len n : Nat) (r : G3Run) (s : State) : (makeup len n r s).cm = s.cm := rfl
@[simp] theorem makeup_fxcMode (len n : Nat) (r : G3Run) (s : State) : (makeup len n r s).fxcMode = s.fxcMode := rfl
@[simp] theorem makeup_fxcLo (len n : Nat) (r : G3Run) (s : State) : (makeup len n r s).fxcLo = s.fxcLo := rfl
@[simp] theorem makeup_fxcHi (len n : Nat) (r : G3Run) (s : State) : (makeup len n r s).fxcHi = s.fxcHi := rfl
@[simp] theorem makeup_fxcRgba (len n : Nat) (r : G3Run) (s : State) : (makeup len n r s).fxcRgba = s.fxcRgba := rfl
@[simp] theorem makeup_icnMw (len n : Nat) (r : G3Run) (s : State) : (makeup len n r s).icnMw = s.icnMw := rfl
@[simp] theorem makeup_icnMh (len n : Nat) (r : G3Run) (s : State) : (makeup len n r s).icnMh = s.icnMh := rfl
@[simp] theorem makeup_icnCtrl (len n : Nat) (r : G3Run) (s : State) : (makeup len n r s).icnCtrl = s.icnCtrl := rfl
@[simp] theorem makeup_inMem (len n : Nat) (r : G3Run) (s : State) : (makeup len n r s).inMem = s.inMem := rfl
@[simp] theorem makeup_pal (len n : Nat) (r : G3Run) (s : State) : (makeup len n r s).pal = s.pal := rfl
@[simp] theorem makeup_lb (len n : Nat) (r : G3Run) (s : State) : (makeup len n r s).lb = s.lb := rfl
@[simp] theorem makeup_mb (len n : Nat) (r : G3Run) (s : State) : (makeup len n r s).mb = s.mb := rfl
@[simp] theorem makeup_fb (len n : Nat) (r : G3Run) (s : State) : (makeup len n r s).fb = s.fb := rfl
@[simp] theorem makeup_run (len n : Nat) (r : G3Run) (s : State) :
    (makeup len n r s).run = .g3 { color := r.color, acc := satAdd r.acc n, midRun := true } :=
  rfl
@[simp] theorem makeup_host (len n : Nat) (r : G3Run) (s : State) : (makeup len n r s).host = s.host := rfl
@[simp] theorem makeup_hostData (len n : Nat) (r : G3Run) (s : State) : (makeup len n r s).hostData = s.hostData := rfl
@[simp] theorem makeup_resets (len n : Nat) (r : G3Run) (s : State) : (makeup len n r s).resets = s.resets := rfl
@[simp] theorem makeup_cfg (len n : Nat) (r : G3Run) (s : State) : (makeup len n r s).cfg = s.cfg := rfl

/-! ## `put` -/

@[simp] theorem put_status (p : Pixel) (s : State) : (put p s).status = s.status := rfl
@[simp] theorem put_inPos (p : Pixel) (s : State) : (put p s).inPos = s.inPos := rfl
@[simp] theorem put_inLen (p : Pixel) (s : State) : (put p s).inLen = s.inLen := rfl
@[simp] theorem put_imgW (p : Pixel) (s : State) : (put p s).imgW = s.imgW := rfl
@[simp] theorem put_imgH (p : Pixel) (s : State) : (put p s).imgH = s.imgH := rfl
@[simp] theorem put_palCount (p : Pixel) (s : State) : (put p s).palCount = s.palCount := rfl
@[simp] theorem put_g3Width (p : Pixel) (s : State) : (put p s).g3Width = s.g3Width := rfl
@[simp] theorem put_g3Ctrl (p : Pixel) (s : State) : (put p s).g3Ctrl = s.g3Ctrl := rfl
@[simp] theorem put_g3Buf (p : Pixel) (s : State) : (put p s).g3Buf = s.g3Buf := rfl
@[simp] theorem put_g3Bits (p : Pixel) (s : State) : (put p s).g3Bits = s.g3Bits := rfl
@[simp] theorem put_g3X (p : Pixel) (s : State) : (put p s).g3X = s.g3X := rfl
@[simp] theorem put_rleCtrl (p : Pixel) (s : State) : (put p s).rleCtrl = s.rleCtrl := rfl
@[simp] theorem put_rleX (p : Pixel) (s : State) :
    (put p s).rleX = BitVec.ofNat 32 (min (s.rleX.toNat + 1) s.imgW.toNat) :=
  rfl
@[simp] theorem put_rleY (p : Pixel) (s : State) : (put p s).rleY = s.rleY := rfl
@[simp] theorem put_cmeArg (p : Pixel) (s : State) : (put p s).cmeArg = s.cmeArg := rfl
@[simp] theorem put_cmeRes (p : Pixel) (s : State) : (put p s).cmeRes = s.cmeRes := rfl
@[simp] theorem put_cm (p : Pixel) (s : State) : (put p s).cm = s.cm := rfl
@[simp] theorem put_fxcMode (p : Pixel) (s : State) : (put p s).fxcMode = s.fxcMode := rfl
@[simp] theorem put_fxcLo (p : Pixel) (s : State) : (put p s).fxcLo = s.fxcLo := rfl
@[simp] theorem put_fxcHi (p : Pixel) (s : State) : (put p s).fxcHi = s.fxcHi := rfl
@[simp] theorem put_fxcRgba (p : Pixel) (s : State) : (put p s).fxcRgba = s.fxcRgba := rfl
@[simp] theorem put_icnMw (p : Pixel) (s : State) : (put p s).icnMw = s.icnMw := rfl
@[simp] theorem put_icnMh (p : Pixel) (s : State) : (put p s).icnMh = s.icnMh := rfl
@[simp] theorem put_icnCtrl (p : Pixel) (s : State) : (put p s).icnCtrl = s.icnCtrl := rfl
@[simp] theorem put_inMem (p : Pixel) (s : State) : (put p s).inMem = s.inMem := rfl
@[simp] theorem put_pal (p : Pixel) (s : State) : (put p s).pal = s.pal := rfl
@[simp] theorem put_lb (p : Pixel) (s : State) : (put p s).lb = s.lb := rfl
@[simp] theorem put_mb (p : Pixel) (s : State) : (put p s).mb = s.mb := rfl
@[simp] theorem put_fb (p : Pixel) (s : State) :
    (put p s).fb = if s.rleX.toNat < s.imgW.toNat ∧ s.rleY.toNat < s.imgH.toNat then
      s.fb.writePixel (pixelAddr s.imgW.toNat s.rleX.toNat (destY s.rleBottomUp s.imgH.toNat s.rleY.toNat)) p
    else s.fb :=
  rfl
@[simp] theorem put_run (p : Pixel) (s : State) : (put p s).run = s.run := rfl
@[simp] theorem put_host (p : Pixel) (s : State) : (put p s).host = s.host := rfl
@[simp] theorem put_hostData (p : Pixel) (s : State) : (put p s).hostData = s.hostData := rfl
@[simp] theorem put_resets (p : Pixel) (s : State) : (put p s).resets = s.resets := rfl
@[simp] theorem put_cfg (p : Pixel) (s : State) : (put p s).cfg = s.cfg := rfl

/-! ## `moveCursor` -/

@[simp] theorem moveCursor_status (dx dy : Nat) (s : State) : (moveCursor dx dy s).status = s.status := rfl
@[simp] theorem moveCursor_inPos (dx dy : Nat) (s : State) : (moveCursor dx dy s).inPos = s.inPos := rfl
@[simp] theorem moveCursor_inLen (dx dy : Nat) (s : State) : (moveCursor dx dy s).inLen = s.inLen := rfl
@[simp] theorem moveCursor_imgW (dx dy : Nat) (s : State) : (moveCursor dx dy s).imgW = s.imgW := rfl
@[simp] theorem moveCursor_imgH (dx dy : Nat) (s : State) : (moveCursor dx dy s).imgH = s.imgH := rfl
@[simp] theorem moveCursor_palCount (dx dy : Nat) (s : State) : (moveCursor dx dy s).palCount = s.palCount := rfl
@[simp] theorem moveCursor_g3Width (dx dy : Nat) (s : State) : (moveCursor dx dy s).g3Width = s.g3Width := rfl
@[simp] theorem moveCursor_g3Ctrl (dx dy : Nat) (s : State) : (moveCursor dx dy s).g3Ctrl = s.g3Ctrl := rfl
@[simp] theorem moveCursor_g3Buf (dx dy : Nat) (s : State) : (moveCursor dx dy s).g3Buf = s.g3Buf := rfl
@[simp] theorem moveCursor_g3Bits (dx dy : Nat) (s : State) : (moveCursor dx dy s).g3Bits = s.g3Bits := rfl
@[simp] theorem moveCursor_g3X (dx dy : Nat) (s : State) : (moveCursor dx dy s).g3X = s.g3X := rfl
@[simp] theorem moveCursor_rleCtrl (dx dy : Nat) (s : State) : (moveCursor dx dy s).rleCtrl = s.rleCtrl := rfl
@[simp] theorem moveCursor_rleX (dx dy : Nat) (s : State) :
    (moveCursor dx dy s).rleX = BitVec.ofNat 32 (min (s.rleX.toNat + dx) s.imgW.toNat) :=
  rfl
@[simp] theorem moveCursor_rleY (dx dy : Nat) (s : State) :
    (moveCursor dx dy s).rleY = BitVec.ofNat 32 (min (s.rleY.toNat + dy) s.imgH.toNat) :=
  rfl
@[simp] theorem moveCursor_cmeArg (dx dy : Nat) (s : State) : (moveCursor dx dy s).cmeArg = s.cmeArg := rfl
@[simp] theorem moveCursor_cmeRes (dx dy : Nat) (s : State) : (moveCursor dx dy s).cmeRes = s.cmeRes := rfl
@[simp] theorem moveCursor_cm (dx dy : Nat) (s : State) : (moveCursor dx dy s).cm = s.cm := rfl
@[simp] theorem moveCursor_fxcMode (dx dy : Nat) (s : State) : (moveCursor dx dy s).fxcMode = s.fxcMode := rfl
@[simp] theorem moveCursor_fxcLo (dx dy : Nat) (s : State) : (moveCursor dx dy s).fxcLo = s.fxcLo := rfl
@[simp] theorem moveCursor_fxcHi (dx dy : Nat) (s : State) : (moveCursor dx dy s).fxcHi = s.fxcHi := rfl
@[simp] theorem moveCursor_fxcRgba (dx dy : Nat) (s : State) : (moveCursor dx dy s).fxcRgba = s.fxcRgba := rfl
@[simp] theorem moveCursor_icnMw (dx dy : Nat) (s : State) : (moveCursor dx dy s).icnMw = s.icnMw := rfl
@[simp] theorem moveCursor_icnMh (dx dy : Nat) (s : State) : (moveCursor dx dy s).icnMh = s.icnMh := rfl
@[simp] theorem moveCursor_icnCtrl (dx dy : Nat) (s : State) : (moveCursor dx dy s).icnCtrl = s.icnCtrl := rfl
@[simp] theorem moveCursor_inMem (dx dy : Nat) (s : State) : (moveCursor dx dy s).inMem = s.inMem := rfl
@[simp] theorem moveCursor_pal (dx dy : Nat) (s : State) : (moveCursor dx dy s).pal = s.pal := rfl
@[simp] theorem moveCursor_lb (dx dy : Nat) (s : State) : (moveCursor dx dy s).lb = s.lb := rfl
@[simp] theorem moveCursor_mb (dx dy : Nat) (s : State) : (moveCursor dx dy s).mb = s.mb := rfl
@[simp] theorem moveCursor_fb (dx dy : Nat) (s : State) : (moveCursor dx dy s).fb = s.fb := rfl
@[simp] theorem moveCursor_run (dx dy : Nat) (s : State) : (moveCursor dx dy s).run = s.run := rfl
@[simp] theorem moveCursor_host (dx dy : Nat) (s : State) : (moveCursor dx dy s).host = s.host := rfl
@[simp] theorem moveCursor_hostData (dx dy : Nat) (s : State) : (moveCursor dx dy s).hostData = s.hostData := rfl
@[simp] theorem moveCursor_resets (dx dy : Nat) (s : State) : (moveCursor dx dy s).resets = s.resets := rfl
@[simp] theorem moveCursor_cfg (dx dy : Nat) (s : State) : (moveCursor dx dy s).cfg = s.cfg := rfl

/-! ## `rleEndOfLine` -/

@[simp] theorem rleEndOfLine_status (s : State) : (rleEndOfLine s).status = s.status := rfl
@[simp] theorem rleEndOfLine_inPos (s : State) : (rleEndOfLine s).inPos = s.inPos := rfl
@[simp] theorem rleEndOfLine_inLen (s : State) : (rleEndOfLine s).inLen = s.inLen := rfl
@[simp] theorem rleEndOfLine_imgW (s : State) : (rleEndOfLine s).imgW = s.imgW := rfl
@[simp] theorem rleEndOfLine_imgH (s : State) : (rleEndOfLine s).imgH = s.imgH := rfl
@[simp] theorem rleEndOfLine_palCount (s : State) : (rleEndOfLine s).palCount = s.palCount := rfl
@[simp] theorem rleEndOfLine_g3Width (s : State) : (rleEndOfLine s).g3Width = s.g3Width := rfl
@[simp] theorem rleEndOfLine_g3Ctrl (s : State) : (rleEndOfLine s).g3Ctrl = s.g3Ctrl := rfl
@[simp] theorem rleEndOfLine_g3Buf (s : State) : (rleEndOfLine s).g3Buf = s.g3Buf := rfl
@[simp] theorem rleEndOfLine_g3Bits (s : State) : (rleEndOfLine s).g3Bits = s.g3Bits := rfl
@[simp] theorem rleEndOfLine_g3X (s : State) : (rleEndOfLine s).g3X = s.g3X := rfl
@[simp] theorem rleEndOfLine_rleCtrl (s : State) : (rleEndOfLine s).rleCtrl = s.rleCtrl := rfl
@[simp] theorem rleEndOfLine_rleX (s : State) : (rleEndOfLine s).rleX = 0 := rfl
@[simp] theorem rleEndOfLine_rleY (s : State) :
    (rleEndOfLine s).rleY = BitVec.ofNat 32 (min (s.rleY.toNat + 1) s.imgH.toNat) :=
  rfl
@[simp] theorem rleEndOfLine_cmeArg (s : State) : (rleEndOfLine s).cmeArg = s.cmeArg := rfl
@[simp] theorem rleEndOfLine_cmeRes (s : State) : (rleEndOfLine s).cmeRes = s.cmeRes := rfl
@[simp] theorem rleEndOfLine_cm (s : State) : (rleEndOfLine s).cm = s.cm := rfl
@[simp] theorem rleEndOfLine_fxcMode (s : State) : (rleEndOfLine s).fxcMode = s.fxcMode := rfl
@[simp] theorem rleEndOfLine_fxcLo (s : State) : (rleEndOfLine s).fxcLo = s.fxcLo := rfl
@[simp] theorem rleEndOfLine_fxcHi (s : State) : (rleEndOfLine s).fxcHi = s.fxcHi := rfl
@[simp] theorem rleEndOfLine_fxcRgba (s : State) : (rleEndOfLine s).fxcRgba = s.fxcRgba := rfl
@[simp] theorem rleEndOfLine_icnMw (s : State) : (rleEndOfLine s).icnMw = s.icnMw := rfl
@[simp] theorem rleEndOfLine_icnMh (s : State) : (rleEndOfLine s).icnMh = s.icnMh := rfl
@[simp] theorem rleEndOfLine_icnCtrl (s : State) : (rleEndOfLine s).icnCtrl = s.icnCtrl := rfl
@[simp] theorem rleEndOfLine_inMem (s : State) : (rleEndOfLine s).inMem = s.inMem := rfl
@[simp] theorem rleEndOfLine_pal (s : State) : (rleEndOfLine s).pal = s.pal := rfl
@[simp] theorem rleEndOfLine_lb (s : State) : (rleEndOfLine s).lb = s.lb := rfl
@[simp] theorem rleEndOfLine_mb (s : State) : (rleEndOfLine s).mb = s.mb := rfl
@[simp] theorem rleEndOfLine_fb (s : State) : (rleEndOfLine s).fb = s.fb := rfl
@[simp] theorem rleEndOfLine_run (s : State) : (rleEndOfLine s).run = s.run := rfl
@[simp] theorem rleEndOfLine_host (s : State) : (rleEndOfLine s).host = s.host := rfl
@[simp] theorem rleEndOfLine_hostData (s : State) : (rleEndOfLine s).hostData = s.hostData := rfl
@[simp] theorem rleEndOfLine_resets (s : State) : (rleEndOfLine s).resets = s.resets := rfl
@[simp] theorem rleEndOfLine_cfg (s : State) : (rleEndOfLine s).cfg = s.cfg := rfl

/-! ## `loadPalette` -/

@[simp] theorem loadPalette_status (i r g b : Byte) (s : State) : (loadPalette s i r g b).status = s.status := rfl
@[simp] theorem loadPalette_inPos (i r g b : Byte) (s : State) : (loadPalette s i r g b).inPos = s.inPos := rfl
@[simp] theorem loadPalette_inLen (i r g b : Byte) (s : State) : (loadPalette s i r g b).inLen = s.inLen := rfl
@[simp] theorem loadPalette_imgW (i r g b : Byte) (s : State) : (loadPalette s i r g b).imgW = s.imgW := rfl
@[simp] theorem loadPalette_imgH (i r g b : Byte) (s : State) : (loadPalette s i r g b).imgH = s.imgH := rfl
@[simp] theorem loadPalette_palCount (i r g b : Byte) (s : State) : (loadPalette s i r g b).palCount = s.palCount := rfl
@[simp] theorem loadPalette_g3Width (i r g b : Byte) (s : State) : (loadPalette s i r g b).g3Width = s.g3Width := rfl
@[simp] theorem loadPalette_g3Ctrl (i r g b : Byte) (s : State) : (loadPalette s i r g b).g3Ctrl = s.g3Ctrl := rfl
@[simp] theorem loadPalette_g3Buf (i r g b : Byte) (s : State) : (loadPalette s i r g b).g3Buf = s.g3Buf := rfl
@[simp] theorem loadPalette_g3Bits (i r g b : Byte) (s : State) : (loadPalette s i r g b).g3Bits = s.g3Bits := rfl
@[simp] theorem loadPalette_g3X (i r g b : Byte) (s : State) : (loadPalette s i r g b).g3X = s.g3X := rfl
@[simp] theorem loadPalette_rleCtrl (i r g b : Byte) (s : State) : (loadPalette s i r g b).rleCtrl = s.rleCtrl := rfl
@[simp] theorem loadPalette_rleX (i r g b : Byte) (s : State) : (loadPalette s i r g b).rleX = s.rleX := rfl
@[simp] theorem loadPalette_rleY (i r g b : Byte) (s : State) : (loadPalette s i r g b).rleY = s.rleY := rfl
@[simp] theorem loadPalette_cmeArg (i r g b : Byte) (s : State) : (loadPalette s i r g b).cmeArg = s.cmeArg := rfl
@[simp] theorem loadPalette_cmeRes (i r g b : Byte) (s : State) : (loadPalette s i r g b).cmeRes = s.cmeRes := rfl
@[simp] theorem loadPalette_cm (i r g b : Byte) (s : State) : (loadPalette s i r g b).cm = s.cm := rfl
@[simp] theorem loadPalette_fxcMode (i r g b : Byte) (s : State) : (loadPalette s i r g b).fxcMode = s.fxcMode := rfl
@[simp] theorem loadPalette_fxcLo (i r g b : Byte) (s : State) : (loadPalette s i r g b).fxcLo = s.fxcLo := rfl
@[simp] theorem loadPalette_fxcHi (i r g b : Byte) (s : State) : (loadPalette s i r g b).fxcHi = s.fxcHi := rfl
@[simp] theorem loadPalette_fxcRgba (i r g b : Byte) (s : State) : (loadPalette s i r g b).fxcRgba = s.fxcRgba := rfl
@[simp] theorem loadPalette_icnMw (i r g b : Byte) (s : State) : (loadPalette s i r g b).icnMw = s.icnMw := rfl
@[simp] theorem loadPalette_icnMh (i r g b : Byte) (s : State) : (loadPalette s i r g b).icnMh = s.icnMh := rfl
@[simp] theorem loadPalette_icnCtrl (i r g b : Byte) (s : State) : (loadPalette s i r g b).icnCtrl = s.icnCtrl := rfl
@[simp] theorem loadPalette_inMem (i r g b : Byte) (s : State) : (loadPalette s i r g b).inMem = s.inMem := rfl
@[simp] theorem loadPalette_pal (i r g b : Byte) (s : State) :
    (loadPalette s i r g b).pal = s.pal.writeBytes (palAddr i.toNat 0) [r, g, b] :=
  rfl
@[simp] theorem loadPalette_lb (i r g b : Byte) (s : State) : (loadPalette s i r g b).lb = s.lb := rfl
@[simp] theorem loadPalette_mb (i r g b : Byte) (s : State) : (loadPalette s i r g b).mb = s.mb := rfl
@[simp] theorem loadPalette_fb (i r g b : Byte) (s : State) : (loadPalette s i r g b).fb = s.fb := rfl
@[simp] theorem loadPalette_run (i r g b : Byte) (s : State) : (loadPalette s i r g b).run = s.run := rfl
@[simp] theorem loadPalette_host (i r g b : Byte) (s : State) : (loadPalette s i r g b).host = s.host := rfl
@[simp] theorem loadPalette_hostData (i r g b : Byte) (s : State) : (loadPalette s i r g b).hostData = s.hostData := rfl
@[simp] theorem loadPalette_resets (i r g b : Byte) (s : State) : (loadPalette s i r g b).resets = s.resets := rfl
@[simp] theorem loadPalette_cfg (i r g b : Byte) (s : State) : (loadPalette s i r g b).cfg = s.cfg := rfl

end Sys2Proof.Machine
end

