-- ==== Sys2Proof/Laws/Stream.lean ====
section
/-! SUPPORT. The stream and the bit buffer: what a fetch, a refill, a consume and a scan can do, each said once. -/

namespace Sys2Proof.Machine

/-! ## `Fetch()` (20_memory.md R65) -/

theorem fetchByte_eq_none {s : State} : fetchByte s = none ↔ s.inPos = s.inLen := by
  unfold fetchByte; split <;> simp_all

theorem fetchByte_eq_some {s t : State} {b : Byte} :
    fetchByte s = some (b, t) ↔
      s.inPos ≠ s.inLen ∧ b = s.byteAt .input s.inPos.toNat ∧ t = { s with inPos := s.inPos + 1 } := by
  unfold fetchByte
  split
  · simp_all
  · simp_all [eq_comm]

theorem fetchByte_of_lt {s : State} (h : s.inPos.toNat < s.inLen.toNat) :
    fetchByte s = some (s.byteAt .input s.inPos.toNat, { s with inPos := s.inPos + 1 }) :=
  fetchByte_eq_some.2 ⟨fun e => by rw [e] at h; exact Nat.lt_irrefl _ h, rfl, rfl⟩

theorem inPos_succ {s : State} (h : s.inPos.toNat < s.inLen.toNat) : (s.inPos + 1).toNat = s.inPos.toNat + 1 := by
  have := s.inLen.isLt
  bv_omega

/-! ## `refill()` (40_g3_huffman.md R132) -/

theorem refillByte_cases (s : State) :
    (refillByte s = s ∧ ¬(s.g3Bits.toNat ≤ 24 ∧ s.inPos.toNat < s.inLen.toNat)) ∨
    (s.g3Bits.toNat ≤ 24 ∧ s.inPos.toNat < s.inLen.toNat ∧
      refillByte s =
        { s with
          inPos := s.inPos + 1
          g3Buf := s.g3Buf ||| ((s.byteAt .input s.inPos.toNat).setWidth 32 <<< (24 - s.g3Bits.toNat))
          g3Bits := BitVec.ofNat 6 (s.g3Bits.toNat + 8) }) := by
  unfold refillByte
  split
  · rename_i h
    rw [fetchByte_of_lt h.2]
    exact .inr ⟨h.1, h.2, rfl⟩
  · exact .inl ⟨rfl, ‹_›⟩

/-- What one turn of a refill keeps, the refill keeps. -/
theorem refill_keeps {P : State → Prop} (h : ∀ s, P s → P (refillByte s)) {s : State} (hs : P s) : P (refill s) :=
  h _ (h _ (h _ (h _ hs)))

/-- A refill touches nothing but the cursor and the bit buffer. -/
theorem refill_frame (s : State) :
    refill s =
      { s with inPos := (refill s).inPos, g3Buf := (refill s).g3Buf, g3Bits := (refill s).g3Bits } := by
  have key : ∀ t : State,
      (t = { s with inPos := t.inPos, g3Buf := t.g3Buf, g3Bits := t.g3Bits }) →
      refillByte t =
        { s with inPos := (refillByte t).inPos, g3Buf := (refillByte t).g3Buf, g3Bits := (refillByte t).g3Bits } := by
    intro t ht
    rcases refillByte_cases t with ⟨e, -⟩ | ⟨-, -, e⟩
    · rw [e]; exact ht
    · rw [e]; rw [ht]
  exact refill_keeps (P := fun t => t = { s with inPos := t.inPos, g3Buf := t.g3Buf, g3Bits := t.g3Bits }) key rfl

theorem bits_add_eight {n : BitVec 6} (h : n.toNat ≤ 24) : (BitVec.ofNat 6 (n.toNat + 8)).toNat = n.toNat + 8 := by
  rw [BitVec.toNat_ofNat]; omega

/-- A refill moves bits from the stream to the buffer; none is lost and none is made. -/
theorem bitsLeft_refill (s : State) : bitsLeft (refill s) = bitsLeft s := by
  refine refill_keeps (P := fun t => bitsLeft t = bitsLeft s) (fun t ht => ?_) rfl
  rcases refillByte_cases t with ⟨e, -⟩ | ⟨h1, h2, e⟩
  · rw [e]; exact ht
  · rw [← ht, e]
    simp only [bitsLeft, bits_add_eight h1, inPos_succ h2]
    omega

/-- The cursor only rises, and not past the end of the stream. -/
theorem refill_inPos {s : State} (h : s.inPos.toNat ≤ s.inLen.toNat) :
    s.inPos.toNat ≤ (refill s).inPos.toNat ∧ (refill s).inPos.toNat ≤ s.inLen.toNat := by
  refine (refill_keeps (P := fun t => t.inLen = s.inLen ∧ s.inPos.toNat ≤ t.inPos.toNat ∧ t.inPos.toNat ≤ s.inLen.toNat)
    (fun t ⟨hl, hp⟩ => ?_) ⟨rfl, Nat.le_refl _, h⟩).2
  rcases refillByte_cases t with ⟨e, -⟩ | ⟨-, h2, e⟩
  · rw [e]; exact ⟨hl, hp⟩
  · rw [e]
    refine ⟨hl, ?_⟩
    have e2 : (t.inPos + 1).toNat = t.inPos.toNat + 1 := inPos_succ h2
    rw [hl] at h2
    simp only [e2]
    omega

/-- After a refill the buffer holds at least 25 bits or the stream is at its end (R132). -/
theorem refill_fills {s : State} (h : s.inPos.toNat ≤ s.inLen.toNat) :
    25 ≤ (refill s).g3Bits.toNat ∨ (refill s).inPos = s.inLen := by
  have turn : ∀ (t : State) (n : Nat), t.inLen = s.inLen → t.inPos.toNat ≤ s.inLen.toNat →
      (n ≤ t.g3Bits.toNat ∨ t.inPos = s.inLen) → n ≤ 24 →
      (refillByte t).inLen = s.inLen ∧ (refillByte t).inPos.toNat ≤ s.inLen.toNat ∧
        (n + 1 ≤ (refillByte t).g3Bits.toNat ∧ (t.g3Bits.toNat ≤ 24 → n + 8 ≤ (refillByte t).g3Bits.toNat) ∨
          (refillByte t).inPos = s.inLen) := by
    intro t n hl hp hn h24
    rcases refillByte_cases t with ⟨e, hno⟩ | ⟨h1, h2, e⟩
    · rw [e]
      refine ⟨hl, hp, ?_⟩
      rcases hn with hn | hn
      · by_cases hb : t.g3Bits.toNat ≤ 24
        · refine .inr (BitVec.eq_of_toNat_eq ?_)
          have : ¬t.inPos.toNat < t.inLen.toNat := fun hlt => hno ⟨hb, hlt⟩
          rw [hl] at this
          omega
        · exact .inl ⟨by omega, fun h => absurd h hb⟩
      · exact .inr hn
    · rw [e]
      have e2 : (t.inPos + 1).toNat = t.inPos.toNat + 1 := inPos_succ h2
      rw [hl] at h2
      refine ⟨hl, by simp only [e2]; omega, ?_⟩
      rcases hn with hn | hn
      · exact .inl (by simp only [bits_add_eight h1]; omega)
      · rw [hn] at h2; exact absurd h2 (Nat.lt_irrefl _)
  have step : ∀ (t : State) (n : Nat), n ≤ 24 → (t.inLen = s.inLen ∧ t.inPos.toNat ≤ s.inLen.toNat ∧
      (min n 25 ≤ t.g3Bits.toNat ∨ t.inPos = s.inLen)) →
      ((refillByte t).inLen = s.inLen ∧ (refillByte t).inPos.toNat ≤ s.inLen.toNat ∧
      (min (n + 8) 25 ≤ (refillByte t).g3Bits.toNat ∨ (refillByte t).inPos = s.inLen)) := by
    rintro t n hn24 ⟨hl, hp, hn⟩
    obtain ⟨a, b, c⟩ := turn t n hl hp (hn.imp (fun h => by omega) id) hn24
    refine ⟨a, b, c.imp (fun ⟨_, c2⟩ => ?_) id⟩
    by_cases hb : t.g3Bits.toNat ≤ 24
    · have := c2 hb; omega
    · rcases refillByte_cases t with ⟨e, -⟩ | ⟨h1, -, -⟩
      · rw [e]; omega
      · exact absurd h1 hb
  have h4 := step _ 24 (by omega) (step _ 16 (by omega) (step _ 8 (by omega)
    (step s 0 (by omega) ⟨rfl, h, .inl (by omega)⟩)))
  exact h4.2.2.imp (fun h => Nat.le_trans (by decide) h) id

/-! ## The bit-buffer invariant (10_state.md R29) -/

theorem refill_bufferLegal {s : State} (h : s.bufferLegal) : (refill s).bufferLegal := by
  refine refill_keeps (P := fun t => t.bufferLegal) (fun t ht => ?_) h
  rcases refillByte_cases t with ⟨e, -⟩ | ⟨h1, -, e⟩
  · rw [e]; exact ht
  · rw [e]
    refine ⟨by simp only [bits_add_eight h1]; omega, fun k hk => ?_⟩
    simp only [bits_add_eight h1] at hk
    simp only [BitVec.getLsbD_or, BitVec.getLsbD_shiftLeft]
    rw [ht.2 k (by omega)]
    simp; omega

theorem bits_sub {n : BitVec 6} {k : Nat} : (BitVec.ofNat 6 (n.toNat - k)).toNat = n.toNat - k := by
  rw [BitVec.toNat_ofNat]; have := n.isLt; omega

theorem consume_bufferLegal {s : State} {k : Nat} (h : s.bufferLegal) : (consume k s).bufferLegal := by
  refine ⟨by simp only [consume_g3Bits, bits_sub]; have := h.1; omega, fun j hj => ?_⟩
  simp only [consume_g3Bits, bits_sub] at hj
  simp only [consume_g3Buf, BitVec.getLsbD_shiftLeft]
  by_cases hjk : j < k
  · simp [hjk]
  · rw [h.2 (j - k) (by omega)]; simp

theorem bitsLeft_consume {s : State} {k : Nat} (h : k ≤ s.g3Bits.toNat) : bitsLeft (consume k s) + k = bitsLeft s := by
  simp only [bitsLeft, consume_g3Bits, consume_inPos, consume_inLen, bits_sub]; omega

/-! ## `scan_eol()` (40_g3_huffman.md R139) -/

/-- A scan touches nothing but the cursor and the bit buffer. -/
theorem scanEolUpTo_frame (n : Nat) (s : State) :
    (scanEolUpTo n s).1 =
      { s with
        inPos := (scanEolUpTo n s).1.inPos
        g3Buf := (scanEolUpTo n s).1.g3Buf
        g3Bits := (scanEolUpTo n s).1.g3Bits } := by
  induction n generalizing s with
  | zero => rfl
  | succ n ih =>
    rw [scanEolUpTo]
    split
    · rw [refill_frame s]; rfl
    · split
      · rw [refill_frame s]; rfl
      · rw [ih (consume 1 (refill s)), refill_frame s]; rfl

/-- A scan that finds no EOL empties the buffer. -/
theorem scanEolUpTo_notFound {n : Nat} {s : State} (h : (scanEolUpTo n s).2 = false) :
    (scanEolUpTo n s).1.g3Buf = 0 ∧ (scanEolUpTo n s).1.g3Bits = 0 := by
  induction n generalizing s with
  | zero => exact ⟨rfl, rfl⟩
  | succ n ih =>
    rw [scanEolUpTo] at h ⊢
    split
    · exact ⟨rfl, rfl⟩
    · rename_i h1
      rw [if_neg h1] at h
      split
      · rename_i h2; rw [if_pos h2] at h; exact absurd h (by simp)
      · rename_i h2; rw [if_neg h2] at h; exact ih h

/-- A scan that finds no EOL, within enough turns for the bits left, has read the stream to its end. -/
theorem scanEolUpTo_notFound_inPos {n : Nat} {s : State} (h : (scanEolUpTo n s).2 = false) (hn : bitsLeft s < n)
    (hp : s.inPos.toNat ≤ s.inLen.toNat) : (scanEolUpTo n s).1.inPos = s.inLen := by
  induction n generalizing s with
  | zero => exact absurd hn (Nat.not_lt_zero _)
  | succ n ih =>
    have hl : (refill s).inLen = s.inLen := by rw [refill_frame s]
    rw [scanEolUpTo] at h ⊢
    split
    · have hf := refill_fills hp
      rcases hf with hf | hf
      · omega
      · exact hf
    · rename_i h1
      rw [if_neg h1] at h
      split
      · rename_i h2; rw [if_pos h2] at h; exact absurd h (by simp)
      · rename_i h2
        rw [if_neg h2] at h
        have hb := bitsLeft_consume (s := refill s) (k := 1) (by omega)
        rw [bitsLeft_refill] at hb
        have := ih (s := consume 1 (refill s)) h (by omega) (by simpa [hl] using (refill_inPos hp).2)
        simpa [hl] using this

theorem scanEolUpTo_bufferLegal (n : Nat) {s : State} (h : s.bufferLegal) : (scanEolUpTo n s).1.bufferLegal := by
  induction n generalizing s with
  | zero => exact ⟨by simp [scanEolUpTo], fun k _ => by simp [scanEolUpTo]⟩
  | succ n ih =>
    rw [scanEolUpTo]
    split
    · exact ⟨by simp, fun k _ => by simp⟩
    · split
      · exact consume_bufferLegal (refill_bufferLegal h)
      · exact ih (consume_bufferLegal (refill_bufferLegal h))

end Sys2Proof.Machine
end

