-- ==== Sys2Proof/Laws/Tokens.lean ====
section
/-! SUPPORT. The tokens of the streams: what `lookup` can answer, which class rule each code word follows, and the one induction
over a command's run. -/

namespace Sys2Proof

/-! ## The code trees (40_g3_huffman.md R137, R138) -/

/-- The leaves of a tree with their depths, the root at depth `i`. -/
def Tree.leavesFrom : Tree → Nat → List (Instr × Nat)
  | .absent, _ => []
  | .leaf ins, i => [(ins, i)]
  | .node l r, i => l.leavesFrom (i + 1) ++ r.leavesFrom (i + 1)

theorem walk_ok {t : Tree} {buf : Word} {bits i len : Nat} {ins : Instr} (h : walk t buf bits i = .ok (ins, len)) :
    (ins, len) ∈ t.leavesFrom i ∧ (i ≤ bits → len ≤ bits) := by
  induction t generalizing i with
  | absent => simp [walk] at h
  | leaf x =>
    simp only [walk, Except.ok.injEq, Prod.mk.injEq] at h
    obtain ⟨rfl, rfl⟩ := h
    exact ⟨by simp [Tree.leavesFrom], id⟩
  | node l r ihl ihr =>
    rw [walk] at h
    split at h
    · cases h
    · split at h
      · obtain ⟨m, b⟩ := ihr h
        exact ⟨by simp [Tree.leavesFrom, m], fun _ => b (by omega)⟩
      · obtain ⟨m, b⟩ := ihl h
        exact ⟨by simp [Tree.leavesFrom, m], fun _ => b (by omega)⟩

theorem leaves_are_rows : ∀ c : Color, ∀ p ∈ (treeOf c).leavesFrom 0, ∃ r ∈ treeRows c, r.instr = p.1 ∧ r.len = p.2 := by
  intro c
  cases c <;> decide +kernel

/-- What `lookup` answers is a row of the colour's tables, and all its bits were there. -/
theorem lookup_ok {c : Color} {buf : Word} {bits len : Nat} {ins : Instr} (h : lookup c buf bits = .ok (ins, len)) :
    (∃ r ∈ treeRows c, r.instr = ins ∧ r.len = len) ∧ len ≤ bits := by
  obtain ⟨m, b⟩ := walk_ok h
  exact ⟨leaves_are_rows c _ m, b (Nat.zero_le _)⟩

theorem row_lengths : ∀ c : Color, ∀ r ∈ treeRows c, 2 ≤ r.len ∧ r.len ≤ 13 ∧ r.run ≤ 2560 := by
  intro c
  cases c <;> decide +kernel

/-- What the next token of a line can be (40_g3_huffman.md R140, R147). -/
theorem decodeG3_ok {c : Color} {start : Bool} {buf : Word} {bits len : Nat} {ins : Instr}
    (h : decodeG3 c start buf bits = .ok (ins, len)) :
    (ins = .eol ∧ len = 12 ∧ start = true ∧ atEol buf bits = true) ∨
    (lookup c buf bits = .ok (ins, len) ∧ ¬(start = true ∧ atEol buf bits = true)) := by
  unfold decodeG3 at h
  split at h
  · simp only [Except.ok.injEq, Prod.mk.injEq] at h
    exact .inl ⟨h.1.symm, h.2.symm, by simp_all, by simp_all⟩
  · exact .inr ⟨h, by simp_all⟩

end Sys2Proof

namespace Sys2Proof.Machine

/-! ## Tokens and `exec` -/

/-- On a token, the run of a command does what `exec` does. -/
theorem execToken_eq_exec {i : Instr} (h : i.isCommand = false) (s : State) : execToken i s = exec i s := by
  cases i <;> first | rfl | exact absurd h (by simp [Instr.isCommand, encode])

theorem token_of_row : ∀ c : Color, ∀ r ∈ treeRows c, r.instr.isCommand = false := by
  intro c
  cases c <;> decide +kernel

/-! ## The class rule of every code word (40_g3_huffman.md R144 to R146) -/

theorem execToken_whiteTerminal : ∀ r ∈ whiteTerminal, ∀ s, execToken r.instr s = terminalCode .white r.len r.run s := by
  simp only [whiteTerminal, List.forall_mem_append, List.forall_mem_cons]
  repeat' apply And.intro
  all_goals first | exact fun _ => rfl | simp

theorem execToken_blackTerminal : ∀ r ∈ blackTerminal, ∀ s, execToken r.instr s = terminalCode .black r.len r.run s := by
  simp only [blackTerminal, List.forall_mem_append, List.forall_mem_cons]
  repeat' apply And.intro
  all_goals first | exact fun _ => rfl | simp

theorem execToken_whiteMakeup : ∀ r ∈ whiteMakeup, ∀ s, execToken r.instr s = makeupCode .white r.len r.run s := by
  simp only [whiteMakeup, List.forall_mem_append, List.forall_mem_cons]
  repeat' apply And.intro
  all_goals first | exact fun _ => rfl | simp

theorem execToken_blackMakeup : ∀ r ∈ blackMakeup, ∀ s, execToken r.instr s = makeupCode .black r.len r.run s := by
  simp only [blackMakeup, List.forall_mem_append, List.forall_mem_cons]
  repeat' apply And.intro
  all_goals first | exact fun _ => rfl | simp

theorem execToken_sharedMakeup : ∀ r ∈ sharedMakeup, ∀ s, execToken r.instr s = sharedCode r.len r.run s := by
  simp only [sharedMakeup, List.forall_mem_cons]
  repeat' apply And.intro
  all_goals first | exact fun _ => rfl | simp

/-- A code word of the selected tree, inside a line, ends its run or goes on with it; it never stops. -/
theorem execToken_row {c : Color} {row : T4Row} (h : row ∈ treeRows c) {s : State} {r : G3Run} (hr : s.run = .g3 r)
    (hc : r.color = c) :
    execToken row.instr s = .next (endRun c (satAdd r.acc row.run) (consume row.len s)) ∨
    execToken row.instr s = .next (makeup row.len row.run r s) := by
  cases c with
  | white =>
    rcases List.mem_append.1 h with h | h
    · rcases List.mem_append.1 h with h | h
      · rw [execToken_whiteTerminal row h s]; simp [terminalCode, hr, hc]
      · rw [execToken_whiteMakeup row h s]; simp [makeupCode, hr, hc]
    · rw [execToken_sharedMakeup row h s]; simp [sharedCode, hr]
  | black =>
    rcases List.mem_append.1 h with h | h
    · rcases List.mem_append.1 h with h | h
      · rw [execToken_blackTerminal row h s]; simp [terminalCode, hr, hc]
      · rw [execToken_blackMakeup row h s]; simp [makeupCode, hr, hc]
    · rw [execToken_sharedMakeup row h s]; simp [sharedCode, hr]

/-! ## The induction over a command's run -/

/-- What every turn of a command's loop keeps holds where the command ends. -/
theorem runTokens_keeps {P : State → Prop}
    (hdone : ∀ s t, P s → s.run ≠ .idle → fetchToken s = .done t → P t)
    (hinstr : ∀ s i t u, P s → s.run ≠ .idle → fetchToken s = .instr i t → execToken i t = .next u → P u) :
    ∀ (n : Nat) {s t : State}, P s → runTokens n s = .next t → P t := by
  intro n
  induction n with
  | zero =>
    intro s t hs h
    unfold runTokens at h
    split at h
    · cases h; exact hs
    · cases h
  | succ n ih =>
    intro s t hs h
    unfold runTokens at h
    split at h
    · cases h; exact hs
    · rename_i hrun
      split at h
      · exact ih (hdone _ _ hs hrun ‹_›) h
      · cases h
      · split at h
        · exact ih (hinstr _ _ _ _ hs hrun ‹_› ‹_›) h
        · cases h
        · cases h

/-- A command's run that ends, ends with no command in progress. -/
theorem runTokens_idle : ∀ (n : Nat) {s t : State}, runTokens n s = .next t → t.run = .idle := by
  intro n
  induction n with
  | zero =>
    intro s t h
    unfold runTokens at h
    split at h
    · cases h; assumption
    · cases h
  | succ n ih =>
    intro s t h
    unfold runTokens at h
    split at h
    · cases h; assumption
    · split at h
      · exact ih h
      · cases h
      · split at h
        · exact ih h
        · cases h
        · cases h

end Sys2Proof.Machine
end

