-- ==== Sys2Proof/Laws/Commands.lean ====
section
/-! SUPPORT. The frames of the shared operations of the commands, and what one step can be. -/

namespace Sys2Proof.Machine

/-! ## Commands run only when none is in progress -/

theorem whenIdle_next {s t : State} {k : State → State} : whenIdle s k = .next t ↔ s.run = .idle ∧ k s = t := by
  unfold whenIdle; split <;> simp_all

theorem inRle_next {s t : State} {k : State → State} : inRle s k = .next t ↔ s.run = .rle ∧ k s = t := by
  unfold inRle; split <;> simp_all

theorem inRleMode_next {m : RleMode} {s t : State} {k : State → State} :
    inRleMode m s k = .next t ↔ s.run = .rle ∧ s.rleMode = some m ∧ k s = t := by
  unfold inRleMode
  split
  · split <;> simp_all
  · simp_all
  · simp_all

/-! ## What a decode's operations may touch: the frame memory, the column cursor, the stream cursor -/

/-- Two states differ at most in `FB`, `RLE_X` and `IN_POS`. -/
def SameButPixels (s t : State) : Prop := t = { s with fb := t.fb, rleX := t.rleX, inPos := t.inPos }

theorem SameButPixels.refl (s : State) : SameButPixels s s := rfl

theorem SameButPixels.trans {s t u : State} (h : SameButPixels s t) (k : SameButPixels t u) : SameButPixels s u := by
  unfold SameButPixels at *
  rw [k, h]

theorem put_same (p : Pixel) (s : State) : SameButPixels s (put p s) := rfl

theorem fetchByte_same {s t : State} {b : Byte} (h : fetchByte s = some (b, t)) : SameButPixels s t := by
  obtain ⟨-, -, rfl⟩ := fetchByte_eq_some.1 h
  rfl

theorem putRepeat_same (n : Nat) (p : Pixel) (s : State) : SameButPixels s (putRepeat n p s) :=
  forUpTo_keeps (SameButPixels s) _ n s (fun _ _ y hy => hy.trans (put_same p y)) (.refl s)

theorem putNibbles_same (n : Nat) (v : Byte) (s : State) : SameButPixels s (putNibbles n v s) :=
  forUpTo_keeps (SameButPixels s) _ n s (fun _ _ y hy => hy.trans (put_same _ y)) (.refl s)

/-- Where a payload leaves the machine, whether or not it was whole. -/
def Payload.state (p : Payload) : State :=
  match p with
  | .ok s => s
  | .error s => s

theorem literals8_same (n : Nat) (s : State) : SameButPixels s (literals8 n s).state := by
  induction n generalizing s with
  | zero => exact .refl s
  | succ n ih =>
    rw [literals8]
    split
    · exact .refl s
    · exact ((fetchByte_same ‹_›).trans (put_same _ _)).trans (ih _)

theorem literals4_same : ∀ (n : Nat) (s : State), SameButPixels s (literals4 n s).state
  | 0, s => .refl s
  | 1, s => by
    rw [literals4]
    split
    · exact .refl s
    · exact (fetchByte_same ‹_›).trans (put_same _ _)
  | n + 2, s => by
    rw [literals4]
    split
    · exact .refl s
    · exact (((fetchByte_same ‹_›).trans (put_same _ _)).trans (put_same _ _)).trans (literals4_same n _)

theorem fetchTriplet_same (s : State) :
    (∀ t, fetchTriplet s = .error t → SameButPixels s t) ∧ (∀ x t, fetchTriplet s = .ok (x, t) → SameButPixels s t) := by
  unfold fetchTriplet
  split
  · constructor
    · intro t h; cases h; exact .refl s
    · intro x t h; cases h
  · rename_i h1
    split
    · constructor
      · intro t h; cases h; exact fetchByte_same h1
      · intro x t h; cases h
    · rename_i h2
      split
      · constructor
        · intro t h; cases h; exact (fetchByte_same h1).trans (fetchByte_same h2)
        · intro x t h; cases h
      · rename_i h3
        constructor
        · intro t h; cases h
        · intro x t h; cases h; exact ((fetchByte_same h1).trans (fetchByte_same h2)).trans (fetchByte_same h3)

theorem literals24_same (n : Nat) (s : State) : SameButPixels s (literals24 n s).state := by
  induction n generalizing s with
  | zero => exact .refl s
  | succ n ih =>
    rw [literals24]
    split
    · exact (fetchTriplet_same s).1 _ ‹_›
    · exact (((fetchTriplet_same s).2 _ _ ‹_›).trans (put_same _ _)).trans (ih _)

theorem padByte_same (odd : Bool) (s : State) : SameButPixels s (padByte odd s).state := by
  unfold padByte
  split
  · split
    · exact .refl s
    · exact fetchByte_same ‹_›
  · exact .refl s

theorem thenPad_same {odd : Bool} {p : Payload} {s : State} (h : SameButPixels s p.state) :
    SameButPixels s (thenPad odd p).state := by
  cases p with
  | ok t => exact h.trans (padByte_same odd t)
  | error t => exact h

/-- After a payload the decode goes on, or it has ended with `TRUNCATED` (43_rle.md R434). -/
theorem afterPayload_cases (p : Payload) :
    (afterPayload p = p.state) ∨ (afterPayload p = finishRle .truncated p.state) := by
  cases p with
  | ok t => exact .inl rfl
  | error t => exact .inr rfl

/-! ## One step -/

/-- What one step can be: it is what `fetch` found, run by `exec` where that is an instruction. -/
theorem step_next {s t : State} (h : step s = .next t) :
    fetch s = .done t ∨ ∃ i u, fetch s = .instr i u ∧ exec i u = .next t := by
  unfold step at h
  split at h
  · exact .inr ⟨_, _, ‹_›, h⟩
  · cases h; exact .inl ‹_›
  · cases h

@[simp] theorem resetNext_eq_true {s : State} : s.resetNext = true ↔ s.host.head? = some .reset := by
  simp [State.resetNext]

@[simp] theorem resetNext_eq_false {s : State} : s.resetNext = false ↔ s.host.head? ≠ some .reset := by
  simp [State.resetNext]

/-- A reset that comes is taken whether or not a command is in progress (70_reset_and_hazards.md R550). -/
theorem step_reset {s : State} {rest : List HostAction} (h : s.host = .reset :: rest) :
    step s = .next (externalReset { s with host := rest }) := by
  simp [step, fetch, State.resetNext, hostAccess, h]

/-- A command in progress goes on with its next token, whatever the host has still to do, unless a reset comes. -/
theorem fetch_running {s : State} (h : s.run ≠ .idle) (hr : s.host.head? ≠ some .reset) : fetch s = fetchToken s := by
  unfold fetch fetchToken
  rw [if_neg (by simpa using hr)]
  cases hr : s.run with
  | idle => exact absurd hr h
  | g3 r => rfl
  | rle => rfl

/-- With nothing to do the machine stays as it is (log 2). -/
theorem step_idle {s : State} (h : s.run = .idle) (h' : s.host = []) : step s = .next s := by
  simp [step, fetch, State.resetNext, h, h']

end Sys2Proof.Machine
end

