-- ==== Sys2Proof/Laws/Fields.lean ====
section
/-! SUPPORT. The fields of the control registers by their bits (10_state.md R31, R34), and the rows of frames written out
(20_memory.md R72), as the statements have them. -/

namespace Sys2Proof.Machine

theorem lowTwo_toNat (w : Word) : (w.extractLsb' 0 2).toNat = w.toNat % 4 := by
  simp [BitVec.extractLsb'_toNat]

theorem lowTwo_eq_iff {w : Word} {n : Nat} (h : n < 4) : w.extractLsb' 0 2 = BitVec.ofNat 2 n ↔ w.toNat % 4 = n := by
  rw [← BitVec.toNat_inj, lowTwo_toNat, BitVec.toNat_ofNat, Nat.mod_eq_of_lt (by omega : n < 2 ^ 2)]

/-- `MODE` by its number: RLE8 is 0. -/
theorem rleMode_eq_rle8 {s : State} : s.rleMode = some .rle8 ↔ s.rleCtrl.toNat % 4 = 0 := by
  rw [← lowTwo_eq_iff (by omega)]
  unfold State.rleMode
  split
  · simp [*]
  · split
    · simp [*]
    · split <;> simp [*]

/-- RLE4 is 1. -/
theorem rleMode_eq_rle4 {s : State} : s.rleMode = some .rle4 ↔ s.rleCtrl.toNat % 4 = 1 := by
  rw [← lowTwo_eq_iff (by omega)]
  unfold State.rleMode
  split
  · simp [*]
  · split
    · simp [*]
    · split <;> simp [*]

/-- RLE24 is 2, where the PDU has it (log 6). -/
theorem rleMode_eq_rle24 {s : State} :
    s.rleMode = some .rle24 ↔ s.rleCtrl.toNat % 4 = 2 ∧ s.cfg.hasRle24 = true := by
  rw [← lowTwo_eq_iff (by omega)]
  unfold State.rleMode
  split
  · simp [*]
  · split
    · simp [*]
    · split <;> simp_all

/-- `LEAVE` is bit 3 of `RLE_CTRL`. -/
theorem rleLeave_eq (s : State) : s.rleLeave = s.rleCtrl.getLsbD 3 := rfl

/-- The row a file row goes to, in the RLE engine. -/
theorem destY_rle (s : State) (y : Nat) :
    destY s.rleBottomUp s.imgH.toNat y = if s.rleCtrl.getLsbD 2 then s.imgH.toNat - 1 - y else y := rfl

/-- The row a file row goes to, in the ICN engine. -/
theorem destY_icn (s : State) (y : Nat) :
    destY s.icnBottomUp s.icnMh.toNat y = if s.icnCtrl.getLsbD 0 then s.icnMh.toNat - 1 - y else y := rfl

/-- The address that `put` writes to is that of the pixel at the cursor. -/
theorem pixelAddr_cursor (s : State) :
    pixelAddr s.imgW.toNat s.rleX.toNat (destY s.rleBottomUp s.imgH.toNat s.rleY.toNat) = s.cursorAddr := by
  rw [pixelAddr, destY_rle, State.cursorAddr, Nat.mul_comm]

end Sys2Proof.Machine
end

