-- ==== Sys2Proof/Laws/PerInstr.lean ====
section
/-! SUPPORT. The statements made per instruction: every instruction's code has the form and the length of its kind
(30_encoding.md R90). -/

namespace Sys2Proof.Laws

/-- A code has the form its context reads: a command word with its reserved bits 0, a code word of 2 to 13 bits, a head of two
bytes (30_encoding.md R90, R91, R94, R100). -/
def codeFits (c : Context) (k : Code) : Bool :=
  match c, k with
  | .command, .command w => commandRest w == 0
  | .codeWord _ _, .bits bs => decide (2 ≤ bs.length) && decide (bs.length ≤ 13)
  | .rle _, .bytes bs => bs.length == 2
  | _, _ => false

/-- The code of an instruction fits every context that reads it, and some context does. -/
def CodeForm.Statement (i : Instr) : Prop :=
  (!i.contexts.isEmpty && i.contexts.all fun c => codeFits c (encode i)) = true

theorem CodeForm.nop : CodeForm.Statement .nop := rfl
theorem CodeForm.g3Reset : CodeForm.Statement .g3Reset := rfl
theorem CodeForm.g3Line : CodeForm.Statement .g3Line := rfl
theorem CodeForm.rleDecode : CodeForm.Statement .rleDecode := rfl
theorem CodeForm.cmeNew (ch : Channel) : CodeForm.Statement (.cmeNew ch) := by cases ch <;> rfl
theorem CodeForm.cmeExtract (ch : Channel) : CodeForm.Statement (.cmeExtract ch) := by cases ch <;> rfl
theorem CodeForm.cmeRgba : CodeForm.Statement .cmeRgba := rfl
theorem CodeForm.fxcDec : CodeForm.Statement .fxcDec := rfl
theorem CodeForm.fxcEnc : CodeForm.Statement .fxcEnc := rfl
theorem CodeForm.icnUnpack1 : CodeForm.Statement .icnUnpack1 := rfl
theorem CodeForm.icnMono : CodeForm.Statement .icnMono := rfl
theorem CodeForm.icnAlpha : CodeForm.Statement .icnAlpha := rfl
theorem CodeForm.wt0 : CodeForm.Statement .wt0 := rfl
theorem CodeForm.wt1 : CodeForm.Statement .wt1 := rfl
theorem CodeForm.wt2 : CodeForm.Statement .wt2 := rfl
theorem CodeForm.wt3 : CodeForm.Statement .wt3 := rfl
theorem CodeForm.wt4 : CodeForm.Statement .wt4 := rfl
theorem CodeForm.wt5 : CodeForm.Statement .wt5 := rfl
theorem CodeForm.wt6 : CodeForm.Statement .wt6 := rfl
theorem CodeForm.wt7 : CodeForm.Statement .wt7 := rfl
theorem CodeForm.wt8 : CodeForm.Statement .wt8 := rfl
theorem CodeForm.wt9 : CodeForm.Statement .wt9 := rfl
theorem CodeForm.wt10 : CodeForm.Statement .wt10 := rfl
theorem CodeForm.wt11 : CodeForm.Statement .wt11 := rfl
theorem CodeForm.wt12 : CodeForm.Statement .wt12 := rfl
theorem CodeForm.wt13 : CodeForm.Statement .wt13 := rfl
theorem CodeForm.wt14 : CodeForm.Statement .wt14 := rfl
theorem CodeForm.wt15 : CodeForm.Statement .wt15 := rfl
theorem CodeForm.wt16 : CodeForm.Statement .wt16 := rfl
theorem CodeForm.wt17 : CodeForm.Statement .wt17 := rfl
theorem CodeForm.wt18 : CodeForm.Statement .wt18 := rfl
theorem CodeForm.wt19 : CodeForm.Statement .wt19 := rfl
theorem CodeForm.wt20 : CodeForm.Statement .wt20 := rfl
theorem CodeForm.wt21 : CodeForm.Statement .wt21 := rfl
theorem CodeForm.wt22 : CodeForm.Statement .wt22 := rfl
theorem CodeForm.wt23 : CodeForm.Statement .wt23 := rfl
theorem CodeForm.wt24 : CodeForm.Statement .wt24 := rfl
theorem CodeForm.wt25 : CodeForm.Statement .wt25 := rfl
theorem CodeForm.wt26 : CodeForm.Statement .wt26 := rfl
theorem CodeForm.wt27 : CodeForm.Statement .wt27 := rfl
theorem CodeForm.wt28 : CodeForm.Statement .wt28 := rfl
theorem CodeForm.wt29 : CodeForm.Statement .wt29 := rfl
theorem CodeForm.wt30 : CodeForm.Statement .wt30 := rfl
theorem CodeForm.wt31 : CodeForm.Statement .wt31 := rfl
theorem CodeForm.wt32 : CodeForm.Statement .wt32 := rfl
theorem CodeForm.wt33 : CodeForm.Statement .wt33 := rfl
theorem CodeForm.wt34 : CodeForm.Statement .wt34 := rfl
theorem CodeForm.wt35 : CodeForm.Statement .wt35 := rfl
theorem CodeForm.wt36 : CodeForm.Statement .wt36 := rfl
theorem CodeForm.wt37 : CodeForm.Statement .wt37 := rfl
theorem CodeForm.wt38 : CodeForm.Statement .wt38 := rfl
theorem CodeForm.wt39 : CodeForm.Statement .wt39 := rfl
theorem CodeForm.wt40 : CodeForm.Statement .wt40 := rfl
theorem CodeForm.wt41 : CodeForm.Statement .wt41 := rfl
theorem CodeForm.wt42 : CodeForm.Statement .wt42 := rfl
theorem CodeForm.wt43 : CodeForm.Statement .wt43 := rfl
theorem CodeForm.wt44 : CodeForm.Statement .wt44 := rfl
theorem CodeForm.wt45 : CodeForm.Statement .wt45 := rfl
theorem CodeForm.wt46 : CodeForm.Statement .wt46 := rfl
theorem CodeForm.wt47 : CodeForm.Statement .wt47 := rfl
theorem CodeForm.wt48 : CodeForm.Statement .wt48 := rfl
theorem CodeForm.wt49 : CodeForm.Statement .wt49 := rfl
theorem CodeForm.wt50 : CodeForm.Statement .wt50 := rfl
theorem CodeForm.wt51 : CodeForm.Statement .wt51 := rfl
theorem CodeForm.wt52 : CodeForm.Statement .wt52 := rfl
theorem CodeForm.wt53 : CodeForm.Statement .wt53 := rfl
theorem CodeForm.wt54 : CodeForm.Statement .wt54 := rfl
theorem CodeForm.wt55 : CodeForm.Statement .wt55 := rfl
theorem CodeForm.wt56 : CodeForm.Statement .wt56 := rfl
theorem CodeForm.wt57 : CodeForm.Statement .wt57 := rfl
theorem CodeForm.wt58 : CodeForm.Statement .wt58 := rfl
theorem CodeForm.wt59 : CodeForm.Statement .wt59 := rfl
theorem CodeForm.wt60 : CodeForm.Statement .wt60 := rfl
theorem CodeForm.wt61 : CodeForm.Statement .wt61 := rfl
theorem CodeForm.wt62 : CodeForm.Statement .wt62 := rfl
theorem CodeForm.wt63 : CodeForm.Statement .wt63 := rfl
theorem CodeForm.wm64 : CodeForm.Statement .wm64 := rfl
theorem CodeForm.wm128 : CodeForm.Statement .wm128 := rfl
theorem CodeForm.wm192 : CodeForm.Statement .wm192 := rfl
theorem CodeForm.wm256 : CodeForm.Statement .wm256 := rfl
theorem CodeForm.wm320 : CodeForm.Statement .wm320 := rfl
theorem CodeForm.wm384 : CodeForm.Statement .wm384 := rfl
theorem CodeForm.wm448 : CodeForm.Statement .wm448 := rfl
theorem CodeForm.wm512 : CodeForm.Statement .wm512 := rfl
theorem CodeForm.wm576 : CodeForm.Statement .wm576 := rfl
theorem CodeForm.wm640 : CodeForm.Statement .wm640 := rfl
theorem CodeForm.wm704 : CodeForm.Statement .wm704 := rfl
theorem CodeForm.wm768 : CodeForm.Statement .wm768 := rfl
theorem CodeForm.wm832 : CodeForm.Statement .wm832 := rfl
theorem CodeForm.wm896 : CodeForm.Statement .wm896 := rfl
theorem CodeForm.wm960 : CodeForm.Statement .wm960 := rfl
theorem CodeForm.wm1024 : CodeForm.Statement .wm1024 := rfl
theorem CodeForm.wm1088 : CodeForm.Statement .wm1088 := rfl
theorem CodeForm.wm1152 : CodeForm.Statement .wm1152 := rfl
theorem CodeForm.wm1216 : CodeForm.Statement .wm1216 := rfl
theorem CodeForm.wm1280 : CodeForm.Statement .wm1280 := rfl
theorem CodeForm.wm1344 : CodeForm.Statement .wm1344 := rfl
theorem CodeForm.wm1408 : CodeForm.Statement .wm1408 := rfl
theorem CodeForm.wm1472 : CodeForm.Statement .wm1472 := rfl
theorem CodeForm.wm1536 : CodeForm.Statement .wm1536 := rfl
theorem CodeForm.wm1600 : CodeForm.Statement .wm1600 := rfl
theorem CodeForm.wm1664 : CodeForm.Statement .wm1664 := rfl
theorem CodeForm.wm1728 : CodeForm.Statement .wm1728 := rfl
theorem CodeForm.bt0 : CodeForm.Statement .bt0 := rfl
theorem CodeForm.bt1 : CodeForm.Statement .bt1 := rfl
theorem CodeForm.bt2 : CodeForm.Statement .bt2 := rfl
theorem CodeForm.bt3 : CodeForm.Statement .bt3 := rfl
theorem CodeForm.bt4 : CodeForm.Statement .bt4 := rfl
theorem CodeForm.bt5 : CodeForm.Statement .bt5 := rfl
theorem CodeForm.bt6 : CodeForm.Statement .bt6 := rfl
theorem CodeForm.bt7 : CodeForm.Statement .bt7 := rfl
theorem CodeForm.bt8 : CodeForm.Statement .bt8 := rfl
theorem CodeForm.bt9 : CodeForm.Statement .bt9 := rfl
theorem CodeForm.bt10 : CodeForm.Statement .bt10 := rfl
theorem CodeForm.bt11 : CodeForm.Statement .bt11 := rfl
theorem CodeForm.bt12 : CodeForm.Statement .bt12 := rfl
theorem CodeForm.bt13 : CodeForm.Statement .bt13 := rfl
theorem CodeForm.bt14 : CodeForm.Statement .bt14 := rfl
theorem CodeForm.bt15 : CodeForm.Statement .bt15 := rfl
theorem CodeForm.bt16 : CodeForm.Statement .bt16 := rfl
theorem CodeForm.bt17 : CodeForm.Statement .bt17 := rfl
theorem CodeForm.bt18 : CodeForm.Statement .bt18 := rfl
theorem CodeForm.bt19 : CodeForm.Statement .bt19 := rfl
theorem CodeForm.bt20 : CodeForm.Statement .bt20 := rfl
theorem CodeForm.bt21 : CodeForm.Statement .bt21 := rfl
theorem CodeForm.bt22 : CodeForm.Statement .bt22 := rfl
theorem CodeForm.bt23 : CodeForm.Statement .bt23 := rfl
theorem CodeForm.bt24 : CodeForm.Statement .bt24 := rfl
theorem CodeForm.bt25 : CodeForm.Statement .bt25 := rfl
theorem CodeForm.bt26 : CodeForm.Statement .bt26 := rfl
theorem CodeForm.bt27 : CodeForm.Statement .bt27 := rfl
theorem CodeForm.bt28 : CodeForm.Statement .bt28 := rfl
theorem CodeForm.bt29 : CodeForm.Statement .bt29 := rfl
theorem CodeForm.bt30 : CodeForm.Statement .bt30 := rfl
theorem CodeForm.bt31 : CodeForm.Statement .bt31 := rfl
theorem CodeForm.bt32 : CodeForm.Statement .bt32 := rfl
theorem CodeForm.bt33 : CodeForm.Statement .bt33 := rfl
theorem CodeForm.bt34 : CodeForm.Statement .bt34 := rfl
theorem CodeForm.bt35 : CodeForm.Statement .bt35 := rfl
theorem CodeForm.bt36 : CodeForm.Statement .bt36 := rfl
theorem CodeForm.bt37 : CodeForm.Statement .bt37 := rfl
theorem CodeForm.bt38 : CodeForm.Statement .bt38 := rfl
theorem CodeForm.bt39 : CodeForm.Statement .bt39 := rfl
theorem CodeForm.bt40 : CodeForm.Statement .bt40 := rfl
theorem CodeForm.bt41 : CodeForm.Statement .bt41 := rfl
theorem CodeForm.bt42 : CodeForm.Statement .bt42 := rfl
theorem CodeForm.bt43 : CodeForm.Statement .bt43 := rfl
theorem CodeForm.bt44 : CodeForm.Statement .bt44 := rfl
theorem CodeForm.bt45 : CodeForm.Statement .bt45 := rfl
theorem CodeForm.bt46 : CodeForm.Statement .bt46 := rfl
theorem CodeForm.bt47 : CodeForm.Statement .bt47 := rfl
theorem CodeForm.bt48 : CodeForm.Statement .bt48 := rfl
theorem CodeForm.bt49 : CodeForm.Statement .bt49 := rfl
theorem CodeForm.bt50 : CodeForm.Statement .bt50 := rfl
theorem CodeForm.bt51 : CodeForm.Statement .bt51 := rfl
theorem CodeForm.bt52 : CodeForm.Statement .bt52 := rfl
theorem CodeForm.bt53 : CodeForm.Statement .bt53 := rfl
theorem CodeForm.bt54 : CodeForm.Statement .bt54 := rfl
theorem CodeForm.bt55 : CodeForm.Statement .bt55 := rfl
theorem CodeForm.bt56 : CodeForm.Statement .bt56 := rfl
theorem CodeForm.bt57 : CodeForm.Statement .bt57 := rfl
theorem CodeForm.bt58 : CodeForm.Statement .bt58 := rfl
theorem CodeForm.bt59 : CodeForm.Statement .bt59 := rfl
theorem CodeForm.bt60 : CodeForm.Statement .bt60 := rfl
theorem CodeForm.bt61 : CodeForm.Statement .bt61 := rfl
theorem CodeForm.bt62 : CodeForm.Statement .bt62 := rfl
theorem CodeForm.bt63 : CodeForm.Statement .bt63 := rfl
theorem CodeForm.bm64 : CodeForm.Statement .bm64 := rfl
theorem CodeForm.bm128 : CodeForm.Statement .bm128 := rfl
theorem CodeForm.bm192 : CodeForm.Statement .bm192 := rfl
theorem CodeForm.bm256 : CodeForm.Statement .bm256 := rfl
theorem CodeForm.bm320 : CodeForm.Statement .bm320 := rfl
theorem CodeForm.bm384 : CodeForm.Statement .bm384 := rfl
theorem CodeForm.bm448 : CodeForm.Statement .bm448 := rfl
theorem CodeForm.bm512 : CodeForm.Statement .bm512 := rfl
theorem CodeForm.bm576 : CodeForm.Statement .bm576 := rfl
theorem CodeForm.bm640 : CodeForm.Statement .bm640 := rfl
theorem CodeForm.bm704 : CodeForm.Statement .bm704 := rfl
theorem CodeForm.bm768 : CodeForm.Statement .bm768 := rfl
theorem CodeForm.bm832 : CodeForm.Statement .bm832 := rfl
theorem CodeForm.bm896 : CodeForm.Statement .bm896 := rfl
theorem CodeForm.bm960 : CodeForm.Statement .bm960 := rfl
theorem CodeForm.bm1024 : CodeForm.Statement .bm1024 := rfl
theorem CodeForm.bm1088 : CodeForm.Statement .bm1088 := rfl
theorem CodeForm.bm1152 : CodeForm.Statement .bm1152 := rfl
theorem CodeForm.bm1216 : CodeForm.Statement .bm1216 := rfl
theorem CodeForm.bm1280 : CodeForm.Statement .bm1280 := rfl
theorem CodeForm.bm1344 : CodeForm.Statement .bm1344 := rfl
theorem CodeForm.bm1408 : CodeForm.Statement .bm1408 := rfl
theorem CodeForm.bm1472 : CodeForm.Statement .bm1472 := rfl
theorem CodeForm.bm1536 : CodeForm.Statement .bm1536 := rfl
theorem CodeForm.bm1600 : CodeForm.Statement .bm1600 := rfl
theorem CodeForm.bm1664 : CodeForm.Statement .bm1664 := rfl
theorem CodeForm.bm1728 : CodeForm.Statement .bm1728 := rfl
theorem CodeForm.xm1792 : CodeForm.Statement .xm1792 := rfl
theorem CodeForm.xm1856 : CodeForm.Statement .xm1856 := rfl
theorem CodeForm.xm1920 : CodeForm.Statement .xm1920 := rfl
theorem CodeForm.xm1984 : CodeForm.Statement .xm1984 := rfl
theorem CodeForm.xm2048 : CodeForm.Statement .xm2048 := rfl
theorem CodeForm.xm2112 : CodeForm.Statement .xm2112 := rfl
theorem CodeForm.xm2176 : CodeForm.Statement .xm2176 := rfl
theorem CodeForm.xm2240 : CodeForm.Statement .xm2240 := rfl
theorem CodeForm.xm2304 : CodeForm.Statement .xm2304 := rfl
theorem CodeForm.xm2368 : CodeForm.Statement .xm2368 := rfl
theorem CodeForm.xm2432 : CodeForm.Statement .xm2432 := rfl
theorem CodeForm.xm2496 : CodeForm.Statement .xm2496 := rfl
theorem CodeForm.xm2560 : CodeForm.Statement .xm2560 := rfl
theorem CodeForm.eol : CodeForm.Statement .eol := rfl
theorem CodeForm.runRle8 (n v : Byte) : CodeForm.Statement (.runRle8 n v) := rfl
theorem CodeForm.runRle4 (n v : Byte) : CodeForm.Statement (.runRle4 n v) := rfl
theorem CodeForm.runRle24 (n b : Byte) : CodeForm.Statement (.runRle24 n b) := rfl
theorem CodeForm.absRle8 (n : Byte) : CodeForm.Statement (.absRle8 n) := rfl
theorem CodeForm.absRle4 (n : Byte) : CodeForm.Statement (.absRle4 n) := rfl
theorem CodeForm.absRle24 (n : Byte) : CodeForm.Statement (.absRle24 n) := rfl
theorem CodeForm.rleEol : CodeForm.Statement .rleEol := rfl
theorem CodeForm.eob : CodeForm.Statement .eob := rfl
theorem CodeForm.delta : CodeForm.Statement .delta := rfl

end Sys2Proof.Laws
end

