-- ==== Sys2Proof/Tests/Slice0.lean ====
section
/-! SUPPORT. The model's own tests: words written out from the encoding tables, the ill-formed terms that `wellFormed` refuses,
examples and vectors of spec/95_test_vectors.md, and a witness for the hypotheses of every statement. -/

namespace Sys2Proof.Tests

open Sys2Proof.Machine

-- The kernel evaluates one theorem after another: many at a time need more threads than a bounded memory gives.
set_option Elab.async false

/-! ## WellFormed refuses what the heads cannot encode (30_encoding.md R100) -/

theorem test_run_of_no_pixels_is_ill_formed :
    Instr.wellFormed (.runRle8 0 5) = false ∧ Instr.wellFormed (.runRle4 0 5) = false ∧
      Instr.wellFormed (.runRle24 0 5) = false := by decide

theorem test_absolute_run_of_two_is_ill_formed :
    Instr.wellFormed (.absRle8 2) = false ∧ Instr.wellFormed (.absRle4 2) = false ∧
      Instr.wellFormed (.absRle24 2) = false := by decide

/-! ## Every constructor's decoding: the bit strings of spec/opcode_table.json -/

/-- A list of written-out code words decodes in a colour's tree, before a run and inside one. -/
def allDecode (c : Color) (l : List (Nat × Nat × Instr)) : Bool :=
  l.all fun e =>
    decide (decode (.codeWord c true) (.bits (codeBits e.1 e.2.1)) = .ok e.2.2) &&
      decide (decode (.codeWord c false) (.bits (codeBits e.1 e.2.1)) = .ok e.2.2)

def whiteTerminalWords : List (Nat × Nat × Instr) :=
  List.flatten
    [[(8, 0b00110101, .wt0), (6, 0b000111, .wt1), (4, 0b0111, .wt2), (4, 0b1000, .wt3)],
     [(4, 0b1011, .wt4), (4, 0b1100, .wt5), (4, 0b1110, .wt6), (4, 0b1111, .wt7)],
     [(5, 0b10011, .wt8), (5, 0b10100, .wt9), (5, 0b00111, .wt10), (5, 0b01000, .wt11)],
     [(6, 0b001000, .wt12), (6, 0b000011, .wt13), (6, 0b110100, .wt14), (6, 0b110101, .wt15)],
     [(6, 0b101010, .wt16), (6, 0b101011, .wt17), (7, 0b0100111, .wt18), (7, 0b0001100, .wt19)],
     [(7, 0b0001000, .wt20), (7, 0b0010111, .wt21), (7, 0b0000011, .wt22), (7, 0b0000100, .wt23)],
     [(7, 0b0101000, .wt24), (7, 0b0101011, .wt25), (7, 0b0010011, .wt26), (7, 0b0100100, .wt27)],
     [(7, 0b0011000, .wt28), (8, 0b00000010, .wt29), (8, 0b00000011, .wt30), (8, 0b00011010, .wt31)],
     [(8, 0b00011011, .wt32), (8, 0b00010010, .wt33), (8, 0b00010011, .wt34), (8, 0b00010100, .wt35)],
     [(8, 0b00010101, .wt36), (8, 0b00010110, .wt37), (8, 0b00010111, .wt38), (8, 0b00101000, .wt39)],
     [(8, 0b00101001, .wt40), (8, 0b00101010, .wt41), (8, 0b00101011, .wt42), (8, 0b00101100, .wt43)],
     [(8, 0b00101101, .wt44), (8, 0b00000100, .wt45), (8, 0b00000101, .wt46), (8, 0b00001010, .wt47)],
     [(8, 0b00001011, .wt48), (8, 0b01010010, .wt49), (8, 0b01010011, .wt50), (8, 0b01010100, .wt51)],
     [(8, 0b01010101, .wt52), (8, 0b00100100, .wt53), (8, 0b00100101, .wt54), (8, 0b01011000, .wt55)],
     [(8, 0b01011001, .wt56), (8, 0b01011010, .wt57), (8, 0b01011011, .wt58), (8, 0b01001010, .wt59)],
     [(8, 0b01001011, .wt60), (8, 0b00110010, .wt61), (8, 0b00110011, .wt62), (8, 0b00110100, .wt63)]]

theorem test_decode_whiteTerminalWords_in_white : allDecode .white whiteTerminalWords = true := by decide +kernel

def whiteMakeupWords : List (Nat × Nat × Instr) :=
  List.flatten
    [[(5, 0b11011, .wm64), (5, 0b10010, .wm128), (6, 0b010111, .wm192), (7, 0b0110111, .wm256)],
     [(8, 0b00110110, .wm320), (8, 0b00110111, .wm384), (8, 0b01100100, .wm448), (8, 0b01100101, .wm512)],
     [(8, 0b01101000, .wm576), (8, 0b01100111, .wm640), (9, 0b011001100, .wm704), (9, 0b011001101, .wm768)],
     [(9, 0b011010010, .wm832), (9, 0b011010011, .wm896), (9, 0b011010100, .wm960), (9, 0b011010101, .wm1024)],
     [(9, 0b011010110, .wm1088), (9, 0b011010111, .wm1152), (9, 0b011011000, .wm1216), (9, 0b011011001, .wm1280)],
     [(9, 0b011011010, .wm1344), (9, 0b011011011, .wm1408), (9, 0b010011000, .wm1472), (9, 0b010011001, .wm1536)],
     [(9, 0b010011010, .wm1600), (6, 0b011000, .wm1664), (9, 0b010011011, .wm1728)]]

theorem test_decode_whiteMakeupWords_in_white : allDecode .white whiteMakeupWords = true := by decide +kernel

def blackTerminalWords : List (Nat × Nat × Instr) :=
  List.flatten
    [[(10, 0b0000110111, .bt0), (3, 0b010, .bt1), (2, 0b11, .bt2), (2, 0b10, .bt3)],
     [(3, 0b011, .bt4), (4, 0b0011, .bt5), (4, 0b0010, .bt6), (5, 0b00011, .bt7)],
     [(6, 0b000101, .bt8), (6, 0b000100, .bt9), (7, 0b0000100, .bt10), (7, 0b0000101, .bt11)],
     [(7, 0b0000111, .bt12), (8, 0b00000100, .bt13), (8, 0b00000111, .bt14), (9, 0b000011000, .bt15)],
     [(10, 0b0000010111, .bt16), (10, 0b0000011000, .bt17), (10, 0b0000001000, .bt18), (11, 0b00001100111, .bt19)],
     [(11, 0b00001101000, .bt20), (11, 0b00001101100, .bt21), (11, 0b00000110111, .bt22), (11, 0b00000101000, .bt23)],
     [(11, 0b00000010111, .bt24), (11, 0b00000011000, .bt25), (12, 0b000011001010, .bt26), (12, 0b000011001011, .bt27)],
     [(12, 0b000011001100, .bt28), (12, 0b000011001101, .bt29), (12, 0b000001101000, .bt30), (12, 0b000001101001, .bt31)],
     [(12, 0b000001101010, .bt32), (12, 0b000001101011, .bt33), (12, 0b000011010010, .bt34), (12, 0b000011010011, .bt35)],
     [(12, 0b000011010100, .bt36), (12, 0b000011010101, .bt37), (12, 0b000011010110, .bt38), (12, 0b000011010111, .bt39)],
     [(12, 0b000001101100, .bt40), (12, 0b000001101101, .bt41), (12, 0b000011011010, .bt42), (12, 0b000011011011, .bt43)],
     [(12, 0b000001010100, .bt44), (12, 0b000001010101, .bt45), (12, 0b000001010110, .bt46), (12, 0b000001010111, .bt47)],
     [(12, 0b000001100100, .bt48), (12, 0b000001100101, .bt49), (12, 0b000001010010, .bt50), (12, 0b000001010011, .bt51)],
     [(12, 0b000000100100, .bt52), (12, 0b000000110111, .bt53), (12, 0b000000111000, .bt54), (12, 0b000000100111, .bt55)],
     [(12, 0b000000101000, .bt56), (12, 0b000001011000, .bt57), (12, 0b000001011001, .bt58), (12, 0b000000101011, .bt59)],
     [(12, 0b000000101100, .bt60), (12, 0b000001011010, .bt61), (12, 0b000001100110, .bt62), (12, 0b000001100111, .bt63)]]

theorem test_decode_blackTerminalWords_in_black : allDecode .black blackTerminalWords = true := by decide +kernel

def blackMakeupWords : List (Nat × Nat × Instr) :=
  List.flatten
    [[(10, 0b0000001111, .bm64), (12, 0b000011001000, .bm128), (12, 0b000011001001, .bm192), (12, 0b000001011011, .bm256)],
     [(12, 0b000000110011, .bm320), (12, 0b000000110100, .bm384), (12, 0b000000110101, .bm448), (13, 0b0000001101100, .bm512)],
     [(13, 0b0000001101101, .bm576), (13, 0b0000001001010, .bm640), (13, 0b0000001001011, .bm704), (13, 0b0000001001100, .bm768)],
     [(13, 0b0000001001101, .bm832), (13, 0b0000001110010, .bm896), (13, 0b0000001110011, .bm960), (13, 0b0000001110100, .bm1024)],
     [(13, 0b0000001110101, .bm1088), (13, 0b0000001110110, .bm1152), (13, 0b0000001110111, .bm1216), (13, 0b0000001010010, .bm1280)],
     [(13, 0b0000001010011, .bm1344), (13, 0b0000001010100, .bm1408), (13, 0b0000001010101, .bm1472), (13, 0b0000001011010, .bm1536)],
     [(13, 0b0000001011011, .bm1600), (13, 0b0000001100100, .bm1664), (13, 0b0000001100101, .bm1728)]]

theorem test_decode_blackMakeupWords_in_black : allDecode .black blackMakeupWords = true := by decide +kernel

def sharedMakeupWords : List (Nat × Nat × Instr) :=
  List.flatten
    [[(11, 0b00000001000, .xm1792), (11, 0b00000001100, .xm1856), (11, 0b00000001101, .xm1920), (12, 0b000000010010, .xm1984)],
     [(12, 0b000000010011, .xm2048), (12, 0b000000010100, .xm2112), (12, 0b000000010101, .xm2176), (12, 0b000000010110, .xm2240)],
     [(12, 0b000000010111, .xm2304), (12, 0b000000011100, .xm2368), (12, 0b000000011101, .xm2432), (12, 0b000000011110, .xm2496)],
     [(12, 0b000000011111, .xm2560)]]

theorem test_decode_sharedMakeupWords_in_white : allDecode .white sharedMakeupWords = true := by decide +kernel

theorem test_decode_sharedMakeupWords_in_black : allDecode .black sharedMakeupWords = true := by decide +kernel

theorem test_decode_eol :
    decode (.codeWord .white true) (.bits (codeBits 12 0b000000000001)) = .ok .eol ∧
      decode (.codeWord .black true) (.bits (codeBits 12 0b000000000001)) = .ok .eol := by decide +kernel

theorem test_eol_inside_a_run_is_unrecognised :
    decode (.codeWord .black false) (.bits (codeBits 12 0b000000000001)) = .error .unrecognisedCode := by decide +kernel

theorem test_decode_commands :
    [0x00, 0x01, 0x02, 0x10, 0x020, 0x120, 0x220, 0x320, 0x021, 0x121, 0x221, 0x321, 0x22, 0x30, 0x31, 0x40, 0x41,
        0x42].map decodeCommand =
      [.ok .nop, .ok .g3Reset, .ok .g3Line, .ok .rleDecode, .ok (.cmeNew .r), .ok (.cmeNew .g), .ok (.cmeNew .b),
        .ok (.cmeNew .a), .ok (.cmeExtract .r), .ok (.cmeExtract .g), .ok (.cmeExtract .b), .ok (.cmeExtract .a),
        .ok .cmeRgba, .ok .fxcDec, .ok .fxcEnc, .ok .icnUnpack1, .ok .icnMono, .ok .icnAlpha] := by decide +kernel

/-- Vectors VX2, VX2b and VX2c. -/
theorem test_illegal_commands :
    [0x03, 0x0F, 0x11, 0x23, 0x32, 0x43, 0xFF, 0x400, 0x80000000, 0x102, 0x122, 0x100].all
      (fun w => decide (decodeCommand w = .error .illegalCommand)) = true := by decide +kernel

theorem test_decode_rle_heads :
    decode (.rle .rle8) (.bytes [3, 5]) = .ok (.runRle8 3 5) ∧ decode (.rle .rle4) (.bytes [5, 0x12]) = .ok (.runRle4 5 0x12) ∧
      decode (.rle .rle24) (.bytes [2, 0x0A]) = .ok (.runRle24 2 0x0A) ∧
      decode (.rle .rle8) (.bytes [0, 3]) = .ok (.absRle8 3) ∧ decode (.rle .rle4) (.bytes [0, 255]) = .ok (.absRle4 255) ∧
      decode (.rle .rle24) (.bytes [0, 3]) = .ok (.absRle24 3) ∧ decode (.rle .rle8) (.bytes [0, 0]) = .ok .rleEol ∧
      decode (.rle .rle4) (.bytes [0, 1]) = .ok .eob ∧ decode (.rle .rle24) (.bytes [0, 2]) = .ok .delta := by decide +kernel

/-- Table words by their exact bits, or in whole bytes with zeros above the code (log 17). -/
theorem test_table_words :
    decodeTableWord 4 0b0111 = some .wt2 ∧ decodeTableWord 8 0b1111 = some .wt7 ∧ decodeTableWord 2 0b11 = some .bt2 ∧
      decodeTableWord 12 0b000000000001 = some .eol ∧ decodeTableWord 16 0b0000001101100 = some .bm512 ∧
      decodeTableWord 16 0x0001 = some .eob ∧ decodeTableWord 16 0x0305 = some (.runRle8 3 5) ∧
      decodeTableWord 16 0x00FF = some (.absRle8 255) ∧ decodeTableWord 32 0x321 = some (.cmeExtract .a) ∧
      decodeTableWord 32 3 = none := by decide +kernel

/-- The next step after placing a table word runs it. -/
theorem test_withFetchWord_runs_the_word :
    ((nextOf (step (State.reset.withFetchWord 4 0b0111))).map fun t => t.g3X) = some 2 ∧
      ((nextOf (step (State.reset.withFetchWord 16 0b0000001101100))).map fun t => t.run) =
        some (.g3 { color := .black, acc := 512, midRun := true }) ∧
      ((nextOf (step (State.reset.withFetchWord 16 0x0305))).map fun t => t.rleX) = some 1 ∧
      ((nextOf (step (State.reset.withFetchWord 32 0x22))).map fun t => t.cmeRes) = some 0xFFFFFFFF := by decide +kernel

/-- 40_g3_huffman.md R137, R155(e): 208 nodes, 104 leaves in each tree. -/
theorem test_tree_sizes :
    whiteTree.size = 208 ∧ blackTree.size = 208 ∧ whiteTree.leaves = 104 ∧ blackTree.leaves = 104 := by decide +kernel

theorem test_table_lengths : encTable.length = 256 ∧ thrTable.length = 255 := by decide +kernel

/-- 30_encoding.md R121: `WRUN 2600` = `XM2560 WT40`, `WRUN 2624` = `XM2560 WM64 WT0`, `BRUN 0` = `BT0`. -/
theorem test_run_expansion :
    expandRun .white 2600 = [.xm2560, .wt40] ∧ expandRun .white 2624 = [.xm2560, .wm64, .wt0] ∧
      expandRun .black 0 = [.bt0] := by decide +kernel

/-! ## Small states -/

/-- The reset state with accesses of the host to come. -/
def hostDo (h : List HostAction) : State := { State.reset with host := h }

/-- A state with the given stream, at its first byte. -/
def withStream (bs : List Byte) (s : State) : State :=
  { s with inMem := memoryFrom 0 bs, inPos := 0, inLen := BitVec.ofNat 32 bs.length }

/-- An idle state ready for a line of the given width. -/
def lineState (width : Nat) (bs : List Byte) : State :=
  withStream bs { State.reset with g3Width := BitVec.ofNat 32 width }

/-- A line of 8 pixels in progress, `x` of them filled, with an empty stream and the given valid bits. -/
def inLine (c : Color) (mid : Bool) (x bits : Nat) (buf : Word) : State :=
  { State.reset with
    status := { State.reset.status with busy := true }
    run := .g3 { color := c, acc := 0, midRun := mid }
    g3Width := 8, g3X := BitVec.ofNat 32 x, g3Bits := BitVec.ofNat 6 bits, g3Buf := buf }

/-- The palette of 43_rle.md's examples, entries 0 to 9. -/
def tenColours : Memory := memoryFrom 0 ((List.range 10).flatMap fun i =>
  [BitVec.ofNat 8 (10 * i), BitVec.ofNat 8 (10 * i + 1), BitVec.ofNat 8 (10 * i + 2)])

/-- An idle state ready for a decode of a frame of `w` by `h` pixels. -/
def frameState (ctrl w h : Nat) (bs : List Byte) : State :=
  withStream bs
    { State.reset with
      rleCtrl := BitVec.ofNat 32 ctrl, imgW := BitVec.ofNat 32 w, imgH := BitVec.ofNat 32 h, palCount := 10, pal := tenColours }

/-- A decode in progress at column `x` of row 0. -/
def inFrame (ctrl w h x : Nat) (bs : List Byte) : State :=
  { beginCommand .rle (frameState ctrl w h bs) with rleX := BitVec.ofNat 32 x }

/-- The packed mask image of 46_icon_mask.md R501's example, black and white palette. -/
def iconState (mh ctrl : Nat) (bs : List Byte) : State :=
  withStream bs
    { State.reset with
      icnMw := 2, icnMh := BitVec.ofNat 32 mh, icnCtrl := BitVec.ofNat 32 ctrl, palCount := 2
      pal := memoryFrom 0 [0, 0, 0, 255, 255, 255] }

/-- The decoded mask image of that example. -/
def maskState (mh : Nat) : State :=
  { State.reset with
    icnMw := 2, icnMh := BitVec.ofNat 32 mh
    mb := memoryFrom 0
      [0, 0, 0, 255, 0, 0, 0, 255, 255, 255, 255, 255, 255, 255, 255, 255,
       255, 255, 255, 255, 0, 0, 0, 255, 0, 0, 0, 255, 255, 255, 255, 255] }

/-- The same with a colour image of `w` by 2 pixels in `FB`. -/
def colourState (w : Nat) : State :=
  { maskState 4 with
    imgW := BitVec.ofNat 32 w, imgH := 2
    fb := memoryFrom 0 ((List.range (2 * w)).flatMap fun _ => [10, 20, 30, 255]) }

/-- What is looked at after an instruction. -/
def after {α : Type} (i : Instr) (s : State) (f : State → α) : Option α := (nextOf (exec i s)).map f

/-- The bytes of a memory. -/
def bytesOf (m : Memory) : List Byte := m.map fun c => c.2

/-! ## The external reset (70_reset_and_hazards.md R550) -/

/-- During a command: the command is abandoned. -/
theorem test_reset_during_a_command :
    nextOf (step { inLine .black true 3 4 0x80000000 with host := [.reset, .rd 4], cmeArg := 7 }) =
      some { State.reset with host := [.rd 4], resets := 1 } := by decide +kernel

/-- Other accesses of the host wait for the end of the command (20_memory.md R80). -/
theorem test_host_waits_during_a_command :
    ((nextOf (step { inLine .white false 0 4 0x80000000 with host := [.wr 8 1] })).map fun t => (t.g3X, t.inPos, t.host)) =
      some (3, 0, [.wr 8 1]) := by decide +kernel

/-! ## G3 (95_test_vectors.md 2.1; the examples of 40_g3_huffman.md) -/

/-- VG1. -/
theorem test_g3Line_complete :
    after .g3Line (lineState 8 [0x8E, 0x00])
        (fun t => (t.status.word, (t.g3X, t.g3Buf, t.g3Bits), t.inPos, bytesOf t.lb)) =
      some (0x002, (8, 0, 6), 2, [0, 0, 0, 255, 255, 0, 0, 0]) := by decide +kernel

/-- VG4. -/
theorem test_g3Line_bad_code :
    after .g3Line (lineState 8 [0x80, 0x0F, 0x00, 0x17])
        (fun t => (t.status.word, (t.g3X, t.g3Buf, t.g3Bits), t.inPos, bytesOf t.lb)) =
      some (0x402, (3, 0x70000000, 4), 4, [0, 0, 0]) := by decide +kernel

/-- R144's example. -/
theorem test_wt3 :
    after .wt3 (inLine .white false 0 4 0x80000000) (fun t => (t.g3X, t.g3Bits, t.run, bytesOf t.lb)) =
      some (3, 0, .g3 { color := .black, acc := 0, midRun := false }, [0, 0, 0]) := by decide +kernel

/-- R142: a black run longer than the rest of the line is cut. -/
theorem test_bt63_is_cut :
    after .bt63 (inLine .black false 6 12 0x06700000) (fun t => (t.g3X, t.g3Buf, t.run, t.lb)) =
      some (8, 0, .g3 { color := .white, acc := 0, midRun := false }, [(6, 255), (7, 255)]) := by decide +kernel

/-- R145, R146: make-up codes add up. -/
theorem test_wm64 :
    after .wm64 (inLine .white false 0 5 0xD8000000) (fun t => (t.g3X, t.g3Bits, t.run, t.lb)) =
      some (0, 0, .g3 { color := .white, acc := 64, midRun := true }, []) := by decide +kernel

theorem test_bm1728 :
    after .bm1728 (inLine .black false 0 13 0x03280000) (fun t => (t.g3Bits, t.run)) =
      some (0, .g3 { color := .black, acc := 1728, midRun := true }) := by decide +kernel

theorem test_xm2560 :
    after .xm2560 (inLine .black true 0 14 0x01F80000) (fun t => (t.g3Buf, t.g3Bits, t.run)) =
      some (0x80000000, 2, .g3 { color := .black, acc := 2560, midRun := true }) := by decide +kernel

/-- R143, R147: EOL at line start and after it. -/
theorem test_eol_at_line_start :
    after .eol (inLine .black false 0 12 0x00100000) (fun t => (t.g3Bits, t.run, t.status.done)) =
      some (0, .g3 { color := .black, acc := 0, midRun := false }, false) := by decide +kernel

theorem test_eol_ends_the_line :
    after .eol (inLine .white false 5 18 0x00100000) (fun t => (t.g3Bits, t.run, t.status.word, t.g3X)) =
      some (6, .idle, 0x202, 5) := by decide +kernel

/-- R131's example. -/
theorem test_g3Reset :
    after .g3Reset { State.reset with g3Buf := 0xA0123456, g3Bits := 32, inPos := 5 }
        (fun t => (t.status.word, t.g3Buf, t.g3Bits, t.inPos)) = some (0x002, 0, 0, 5) := by decide +kernel

/-- VX1. -/
theorem test_nop : after .nop State.reset (fun t => t.status.word) = some 0x002 := by decide +kernel

/-! ## RLE (95_test_vectors.md 2.2; the examples of 43_rle.md) -/

/-- VR7: bottom-up, with a delta. -/
theorem test_rleDecode_bottom_up :
    after .rleDecode (frameState 4 4 3 [0x01, 0x07, 0x00, 0x02, 0x02, 0x01, 0x01, 0x09, 0x00, 0x01])
        (fun t => (t.status.word, t.inPos, t.rleX, t.rleY, bytesOf t.fb)) =
      some (0x102, 10, 4, 1,
        List.replicate 28 0 ++ [90, 91, 92, 255] ++ [70, 71, 72, 255] ++ List.replicate 12 0) := by decide +kernel

/-- VR12: the rows run out. -/
theorem test_rleDecode_rows_done :
    after .rleDecode (frameState 0 2 2 [0, 0, 0, 0, 5, 5]) (fun t => (t.status.word, t.inPos, t.rleX, t.rleY)) =
      some (0x122, 4, 0, 2) := by decide +kernel

/-- R425's example, on row 0. -/
theorem test_runRle8 :
    after (.runRle8 3 5) (inFrame 0 8 1 0 []) (fun t => (t.rleX, bytesOf t.fb)) =
      some (3, [50, 51, 52, 255, 50, 51, 52, 255, 50, 51, 52, 255]) := by decide +kernel

/-- R426's example. -/
theorem test_runRle4 :
    after (.runRle4 5 0x12) (inFrame 1 6 1 0 []) (fun t => (t.rleX, (bytesOf t.fb).take 12)) =
      some (5, [10, 11, 12, 255, 20, 21, 22, 255, 10, 11, 12, 255]) := by decide +kernel

/-- R427's example. -/
theorem test_runRle24 :
    after (.runRle24 2 0x0A) (inFrame 2 5 1 0 [0x14, 0x1E]) (fun t => (t.inPos, bytesOf t.fb)) =
      some (2, [30, 20, 10, 255, 30, 20, 10, 255]) := by decide +kernel

/-- R431's example. -/
theorem test_absRle8 :
    after (.absRle8 3) (inFrame 0 4 1 0 [1, 2, 3, 0xEE]) (fun t => (t.inPos, t.rleX, bytesOf t.fb)) =
      some (4, 3, [10, 11, 12, 255, 20, 21, 22, 255, 30, 31, 32, 255]) := by decide +kernel

/-- R432's example with a pad. -/
theorem test_absRle4 :
    after (.absRle4 5) (inFrame 1 6 1 0 [0x12, 0x34, 0x50, 0xEE]) (fun t => (t.inPos, t.rleX, (bytesOf t.fb).drop 16)) =
      some (4, 5, [50, 51, 52, 255]) := by decide +kernel

/-- R433's example. -/
theorem test_absRle24 :
    after (.absRle24 3) (inFrame 2 4 1 0 [1, 2, 3, 4, 5, 6, 7, 8, 9, 0xEE]) (fun t => (t.inPos, bytesOf t.fb)) =
      some (10, [3, 2, 1, 255, 6, 5, 4, 255, 9, 8, 7, 255]) := by decide +kernel

/-- R428's example. -/
theorem test_rleEol : after .rleEol (inFrame 0 4 2 3 []) (fun t => (t.rleX, t.rleY)) = some (0, 1) := by decide +kernel

theorem test_eob : after .eob (inFrame 8 4 2 3 []) (fun t => (t.rleX, t.run, t.status.word)) = some (3, .idle, 0x002) := by
  decide +kernel

/-- R430's example. -/
theorem test_delta : after .delta (inFrame 4 4 3 1 [2, 1]) (fun t => (t.rleX, t.rleY, t.inPos)) = some (3, 1, 2) := by
  decide +kernel

/-! ## CME, FXC, ICN (95_test_vectors.md 2.3 to 2.5, P4) -/

/-- P4 step 1: `CME_DERIV[0]` = 0x0501080A. -/
theorem test_cmeNew :
    after (.cmeNew .r) { State.reset with cmeArg := 0x7C00 } (fun t => (t.status.word, csrReadAt t 0x080)) =
      some (0x002, 0x0501080A) := by decide +kernel

/-- A mask with holes saturates (R452's table). -/
theorem test_cmeExtract :
    after (.cmeExtract .g) { State.reset with cm := State.reset.cm.set .g (colorMask 5), cmeArg := 4 } (fun t => t.cmeRes) =
      some 255 := by decide +kernel

/-- VM19. -/
theorem test_cmeRgba :
    after .cmeRgba
        { State.reset with
          cm := { r := colorMask 0x7C00, g := colorMask 0x03E0, b := colorMask 0x001F, a := colorMask 0x8000 }
          cmeArg := 0x7FFF }
        (fun t => (t.status.word, t.cmeRes)) = some (0x102, 0x00F8F8F8) := by decide +kernel

/-- VF8. -/
theorem test_fxcDec :
    after .fxcDec { State.reset with fxcLo := 0x001A0019, fxcHi := 0x0010001B } (fun t => (t.status.word, t.fxcRgba)) =
      some (0x102, 0x000A0A0B) := by decide +kernel

/-- VF18. -/
theorem test_fxcEnc :
    after .fxcEnc { State.reset with fxcRgba := 0x7F0A0B4F } (fun t => (t.status.word, t.fxcLo, t.fxcHi)) =
      some (0x002, 0x001B0019, 0x0FF00281) := by decide +kernel

/-- VI1. -/
theorem test_icnUnpack1 :
    after .icnUnpack1 (iconState 4 1 [0x40, 0, 0, 0, 0x80, 0, 0, 0, 0xC0, 0, 0, 0, 0, 0, 0, 0])
        (fun t => (t.status.word, t.inPos, t.mb)) = some (0x002, 16, (maskState 4).mb) := by decide +kernel

/-- VI2. -/
theorem test_icnMono :
    after .icnMono (maskState 4) (fun t => (t.status.word, t.imgW, t.imgH, bytesOf t.fb)) =
      some (0x102, 2, 2, [0, 0, 0, 0, 0, 0, 0, 255, 255, 255, 255, 255, 255, 255, 255, 0]) := by decide +kernel

/-- VI4. -/
theorem test_icnAlpha :
    after .icnAlpha (colourState 2) (fun t => (t.status.word, bytesOf t.fb)) =
      some (0x102, [10, 20, 30, 0, 10, 20, 30, 255, 10, 20, 30, 255, 10, 20, 30, 0]) := by decide +kernel

/-- VI5. -/
theorem test_icnAlpha_mismatch :
    after .icnAlpha (colourState 3) (fun t => (t.status.word, t.fb)) = some (0x902, (colourState 3).fb) := by decide +kernel

/-! ## Witnesses: states that meet the hypotheses of each statement, one for each clause -/

theorem witness_IllegalCommandWordRaisesErrIllegalCmd :
    (hostDo [.wr 0 0x400]).run = .idle ∧ (hostDo [.wr 0 0x400]).host = [.wr 0 0x400] ∧
      (0x400#32).toNat / 1024 ≠ 0 ∧
      (0x003#32).toNat % 256 ∉ [0x00, 0x01, 0x02, 0x10, 0x20, 0x21, 0x22, 0x30, 0x31, 0x40, 0x41, 0x42] ∧
      ((0x122#32).toNat / 256 % 4 ≠ 0 ∧ (0x122#32).toNat % 256 ≠ 0x20 ∧ (0x122#32).toNat % 256 ≠ 0x21) := by decide +kernel

theorem witness_DecodeOfEncodeIsTheInstruction :
    Instr.wellFormed (.absRle24 3) = true ∧ Context.rle .rle24 ∈ Instr.contexts (.absRle24 3) ∧
      Instr.wellFormed (.runRle4 255 255) = true ∧ Context.rle .rle4 ∈ Instr.contexts (.runRle4 255 255) ∧
      Instr.wellFormed .bm512 = true ∧ Context.codeWord .black false ∈ Instr.contexts .bm512 ∧
      Instr.wellFormed (.cmeNew .a) = true ∧ Context.command ∈ Instr.contexts (.cmeNew .a) := by decide +kernel

theorem witness_CodeWordIsReadAtTheHeadOfTheBuffer :
    encode .bt2 = .bits [true, true] ∧ Context.codeWord .black true ∈ Instr.contexts .bt2 ∧
      [true, true].length + (List.replicate 30 false).length ≤ 32 := by decide +kernel

theorem witness_LookupAnswersLeafExhaustedOrInvalid :
    (32 ≤ 32) ∧ lookup .white 0x70000000 32 = .ok (.wt2, 4) ∧ lookup .black 0x00000000 7 = .error .codeCutShort ∧
      lookup .white 0x00FFFFFF 8 = .error .unrecognisedCode := by decide +kernel

theorem witness_StepRunsTheCommandWritten :
    (hostDo [.wr 0 0x320]).run = .idle ∧ (hostDo [.wr 0 0x320]).host = [.wr 0 0x320] ∧
      decodeCommand 0x320 = .ok (.cmeNew .a) := by decide +kernel

theorem witness_StepRunsTheNextCodeWord :
    (inLine .white false 0 4 0x80000000).host.head? ≠ some .reset ∧
      (inLine .black true 0 4 0x80000000).host.head? ≠ some .reset ∧
      (inLine .white false 0 4 0x80000000).run = .g3 { color := .white, acc := 0, midRun := false } ∧
      (inLine .white false 0 4 0x80000000).g3X.toNat < (inLine .white false 0 4 0x80000000).g3Width.toNat ∧
      (refill (inLine .white false 0 4 0x80000000)).g3Bits.toNat ≠ 0 ∧
      decodeG3 .white true (refill (inLine .white false 0 4 0x80000000)).g3Buf
        (refill (inLine .white false 0 4 0x80000000)).g3Bits.toNat = .ok (.wt3, 4) ∧
      (inLine .black true 0 4 0x80000000).run = .g3 { color := .black, acc := 0, midRun := true } ∧
      decodeG3 .black false (refill (inLine .black true 0 4 0x80000000)).g3Buf
        (refill (inLine .black true 0 4 0x80000000)).g3Bits.toNat = .ok (.bt3, 2) := by decide +kernel

theorem witness_StepRunsTheNextRleCommandOrEndsTheDecode :
    (inFrame 0 4 1 0 [3, 5]).host.head? ≠ some .reset ∧ (inFrame 0 4 1 0 [3, 5]).run = .rle ∧ (inFrame 0 4 1 0 [3, 5]).rleY.toNat < (inFrame 0 4 1 0 [3, 5]).imgH.toNat ∧
      (inFrame 0 4 1 0 [3, 5]).rleCtrl.toNat % 4 = 0 ∧ (inFrame 5 4 1 0 [3, 5]).rleCtrl.toNat % 4 = 1 ∧
      (inFrame 14 4 1 0 [3, 5]).rleCtrl.toNat % 4 = 2 ∧ (inFrame 14 4 1 0 [3, 5]).cfg.hasRle24 = true ∧
      (inFrame 0 4 1 0 [3, 5]).inPos.toNat + 2 ≤ (inFrame 0 4 1 0 [3, 5]).inLen.toNat ∧
      (inFrame 0 4 1 0 [3]).inPos.toNat ≤ (inFrame 0 4 1 0 [3]).inLen.toNat ∧
      (inFrame 0 4 1 0 [3]).inLen.toNat < (inFrame 0 4 1 0 [3]).inPos.toNat + 2 ∧
      (inFrame 0 4 1 0 []).inLen.toNat < (inFrame 0 4 1 0 []).inPos.toNat + 2 ∧
      (inFrame 0 4 0 0 []).run = .rle ∧ (inFrame 0 4 0 0 []).imgH.toNat ≤ (inFrame 0 4 0 0 []).rleY.toNat := by decide +kernel

theorem witness_HostWriteReachesExactlyItsRegister :
    (hostDo [.wr 0x0C8 7, .wr 0x004 7, .wr 0x0FC 7]).run = .idle ∧ (0x0C8 < 256 ∧ 0x0C8 % 4 = 0 ∧ 0x0C8 ≠ 0) ∧
      (0x004 < 256 ∧ 0x004 % 4 = 0 ∧ 0x004 ≠ 0) ∧ (0x0FC < 256 ∧ 0x0FC % 4 = 0 ∧ 0x0FC ≠ 0) := by decide +kernel

theorem witness_HostReadReturnsTheRegisterAndChangesNothing :
    (hostDo [.rd 0x0FC]).run = .idle ∧ (hostDo [.rd 0x0FC]).host = [.rd 0x0FC] ∧ 0x0FC < 256 ∧ 0x0FC % 4 = 0 ∧
      0x0CC ≤ 0x0FC := by decide +kernel

theorem witness_ExternalResetForgetsEverything :
    (hostDo [.reset]).run = .idle ∧ (hostDo [.reset]).host = [.reset] ∧
      ({ inFrame 0 4 1 2 [3, 5] with host := [.reset] } : State).run = .rle ∧
      ({ inFrame 0 4 1 2 [3, 5] with host := [.reset] } : State).host = [.reset] ∧
      ({ inLine .black true 3 4 0x80000000 with host := [.reset] } : State).run =
        .g3 { color := .black, acc := 0, midRun := true } := by decide +kernel

theorem witness_LoadedByteIsReadBackAndNoOtherChanges :
    (hostDo [.load .lb 2147483646 7, .read .lb 2147483646]).run = .idle ∧ Space.lb ≠ .pal ∧ Space.lb ≠ .input ∧
      2147483646 < spaceSize (hostDo [.load .lb 2147483646 7, .read .lb 2147483646]).cfg .lb ∧
      (hostDo [.load .lb 2147483646 7, .read .lb 2147483646]).host = .load .lb 2147483646 7 :: [.read .lb 2147483646] := by decide +kernel

theorem witness_LoadedPaletteEntryIsWhatLookupGives :
    (hostDo [.loadPal 255 1 2 3]).run = .idle ∧ (hostDo [.loadPal 255 1 2 3]).host = [.loadPal 255 1 2 3] := by decide +kernel

theorem witness_BufferPrimitivesKeepTheBitStream :
    ({ lineState 8 [0x35, 0xA0, 0x12, 0x34, 0x56] with g3Bits := 24, g3Buf := 0xFFFFFF00 } : State).bufferLegal ∧
      (lineState 8 [0x35, 0xA0, 0x12, 0x34, 0x56]).inPos.toNat ≤ (lineState 8 [0x35, 0xA0, 0x12, 0x34, 0x56]).inLen.toNat ∧
      24 ≤ ({ lineState 8 [] with g3Bits := 24 } : State).g3Bits.toNat := by decide +kernel

theorem witness_WhiteTerminalCodesEndTheRun :
    (whiteTerminal.any fun row => row.instr == .wt63) = true ∧
      (inLine .white false 0 8 0x34000000).run = .g3 { color := .white, acc := 0, midRun := false } := by decide +kernel

theorem witness_BlackTerminalCodesEndTheRun :
    (blackTerminal.any fun row => row.instr == .bt63) = true ∧
      (inLine .black true 0 12 0x06700000).run = .g3 { color := .black, acc := 0, midRun := true } := by decide +kernel

theorem witness_MakeupCodesLengthenTheRun :
    (whiteMakeup.any fun row => row.instr == .wm64) = true ∧
      (inLine .white false 0 5 0xD8000000).run = .g3 { color := .white, acc := 0, midRun := false } ∧
      (blackMakeup.any fun row => row.instr == .bm1728) = true ∧
      (inLine .black true 0 13 0x03280000).run = .g3 { color := .black, acc := 0, midRun := true } := by decide +kernel

theorem witness_SharedMakeupCodesLengthenTheRun :
    (sharedMakeup.any fun row => row.instr == .xm1792) = true ∧
      (inLine .white false 0 11 0x01000000).run = .g3 { color := .white, acc := 0, midRun := false } ∧
      (inLine .black true 0 11 0x01000000).run = .g3 { color := .black, acc := 0, midRun := true } := by decide +kernel

theorem witness_EolIsSkippedAtLineStartElseEndsTheLine :
    (inLine .white false 0 12 0x00100000).run = .g3 { color := .white, acc := 0, midRun := false } ∧
      (inLine .white false 0 12 0x00100000).g3X.toNat = 0 ∧ 0 < (inLine .white false 1 12 0x00100000).g3X.toNat ∧
      (inLine .white false 1 12 0x00100000).run = .g3 { color := .white, acc := 0, midRun := false } := by decide +kernel

theorem witness_InstructionsOutOfPlaceAreRefused :
    Instr.isCommand .nop = true ∧ (inFrame 0 4 1 0 []).run ≠ .idle ∧ Instr.isCommand .wt0 = false ∧ State.reset.run = .idle ∧
      (encode .eob).isBits = false ∧ (encode .wt0).isBits = true ∧ (inFrame 0 4 1 0 []).run = .rle ∧
      ((blackTerminal ++ blackMakeup).any fun row => row.instr == .bt0) = true ∧
      ((whiteTerminal ++ whiteMakeup).any fun row => row.instr == .wt0) = true ∧
      (inLine .white false 0 0 0).run = .g3 { color := .white, acc := 0, midRun := false } ∧
      (inLine .black true 0 0 0).run = .g3 { color := .black, acc := 0, midRun := true } ∧
      Instr.contexts (.absRle4 3) = [.rle .rle4] ∧ (inFrame 0 4 1 0 []).rleMode ≠ some .rle4 := by decide +kernel

theorem witness_G3ResetEmptiesTheBufferAndNopNothing :
    State.reset.run = .idle := by decide +kernel

theorem witness_G3LineEndsAndTouchesOnlyItsLine :
    (lineState 8 [0x8E, 0x00]).run = .idle ∧ g3ParamsOk (lineState 8 [0x8E, 0x00]) = true ∧
      g3ParamsOk (lineState 0 [0x35]) = true ∧ (lineState 0 [0x35]).g3Width = 0 := by decide +kernel

theorem witness_EncodedLineDecodesToItsRuns :
    (lineState 8 [0x8E, 0x00]).run = .idle ∧ g3ParamsOk (lineState 8 [0x8E, 0x00]) = true ∧
      (lineState 8 [0x8E, 0x00]).bufferLegal ∧ [3, 2, 3].sum = (lineState 8 [0x8E, 0x00]).g3Width.toNat ∧
      (∀ k, k < [3, 2, 3].length → ([3, 2, 3].take k).sum < (lineState 8 [0x8E, 0x00]).g3Width.toNat) ∧
      (lineState 8 [0x8E, 0x00]).pendingBits = streamBits (lineCode .white [3, 2, 3]) ++ List.replicate 6 false := by decide +kernel

theorem witness_IllegalParametersRaiseErrParam :
    (lineState 2147483647 []).run = .idle ∧ Instr.isCommand .g3Line = true ∧ g3ParamsOk (lineState 2147483647 []) = true ∧
      g3ParamsOk (lineState 2147483648 []) = false ∧ g3ParamsOk { lineState 8 [] with g3Ctrl := 2 } = false ∧
      g3ParamsOk { lineState 8 [] with inPos := 1 } = false ∧
      (frameState 0 1 1 []).run = .idle ∧ Instr.isCommand .rleDecode = true ∧ rleParamsOk (frameState 14 1 1 []) = true ∧
      rleParamsOk (frameState 0 0 1 []) = false ∧ rleParamsOk (frameState 3 1 1 []) = false ∧
      rleParamsOk (frameState 16 1 1 []) = false ∧ rleParamsOk { frameState 0 1 1 [] with palCount := 257 } = false ∧
      rleParamsOk { frameState 2 1 1 [] with cfg := { Config.default with hasRle24 := false } } = false := by decide +kernel

theorem witness_IllegalParametersRaiseErrParam_of_the_other_commands :
    Instr.isCommand .fxcDec = true ∧ Instr.isCommand .fxcEnc = true ∧ State.reset.run = .idle ∧
      fxcParamsOk { State.reset with fxcMode := 2 } = true ∧ fxcParamsOk { State.reset with fxcMode := 3 } = false ∧
      fxcParamsOk { State.reset with fxcMode := 4 } = false ∧
      Instr.isCommand .icnUnpack1 = true ∧ (iconState 1 1 []).run = .idle ∧ unpackParamsOk (iconState 1 1 []) = true ∧
      unpackParamsOk (iconState 1 2 []) = false ∧ unpackParamsOk (iconState 0 0 []) = false ∧
      Instr.isCommand .icnMono = true ∧ (maskState 1).run = .idle ∧ monoParamsOk (maskState 1) = true ∧
      monoParamsOk (maskState 0) = false ∧ monoParamsOk (maskState 2147483648) = false ∧
      Instr.isCommand .icnAlpha = true ∧ (colourState 1).run = .idle ∧ alphaParamsOk (colourState 1) = true ∧
      alphaParamsOk (colourState 0) = false ∧ Instr.isCommand .nop = true ∧ Instr.isCommand (.cmeNew .r) = true := by decide +kernel

theorem witness_StartTestsRaiseTheirErrors :
    monoParamsOk (maskState 3) = true ∧ (maskState 3).icnMh.toNat % 2 = 1 ∧
      alphaParamsOk { colourState 2 with icnMh := 3 } = true ∧
      ({ State.reset with fxcMode := 2 } : State).fxcMode = 2 ∧
      unpackParamsOk (iconState 4 1 (List.replicate 15 0)) = true ∧
      (iconState 4 1 (List.replicate 15 0)).inLen.toNat - (iconState 4 1 (List.replicate 15 0)).inPos.toNat <
        (((iconState 4 1 (List.replicate 15 0)).icnMw.toNat + 7) / 8 + 3) / 4 * 4 *
          (iconState 4 1 (List.replicate 15 0)).icnMh.toNat := by decide +kernel

theorem witness_RleRunsDrawTheirPixels :
    (inFrame 0 4 1 0 []).run = .rle ∧ (255#8 ≠ 0) ∧ (inFrame 0 4 1 0 []).rleCtrl.toNat % 4 = 0 ∧
      (inFrame 1 4 1 0 []).rleCtrl.toNat % 4 = 1 ∧ (inFrame 2 4 1 0 [1, 2]).rleCtrl.toNat % 4 = 2 ∧
      (inFrame 2 4 1 0 [1, 2]).cfg.hasRle24 = true ∧
      (inFrame 2 4 1 0 [1, 2]).inPos.toNat + 2 ≤ (inFrame 2 4 1 0 [1, 2]).inLen.toNat ∧
      (inFrame 2 4 1 0 [1]).inPos.toNat ≤ (inFrame 2 4 1 0 [1]).inLen.toNat ∧
      (inFrame 2 4 1 0 [1]).inLen.toNat < (inFrame 2 4 1 0 [1]).inPos.toNat + 2 := by decide +kernel

theorem witness_AbsoluteRunsDrawTheirLiterals :
    (inFrame 0 4 1 0 [1, 2, 3, 0]).run = .rle ∧ 3 ≤ (3#8).toNat ∧ (inFrame 0 4 1 0 [1, 2, 3, 0]).rleCtrl.toNat % 4 = 0 ∧
      (inFrame 0 4 1 0 [1, 2, 3, 0]).inPos.toNat + ((3#8).toNat + (3#8).toNat % 2) ≤
        (inFrame 0 4 1 0 [1, 2, 3, 0]).inLen.toNat ∧
      (inFrame 1 4 1 0 [0x12, 0x30]).rleCtrl.toNat % 4 = 1 ∧
      (inFrame 1 4 1 0 [0x12, 0x30]).inPos.toNat + (((3#8).toNat + 1) / 2 + ((3#8).toNat + 1) / 2 % 2) ≤
        (inFrame 1 4 1 0 [0x12, 0x30]).inLen.toNat ∧
      (inFrame 2 4 1 0 (List.replicate 10 1)).rleCtrl.toNat % 4 = 2 ∧
      (inFrame 2 4 1 0 (List.replicate 10 1)).cfg.hasRle24 = true ∧
      (inFrame 2 4 1 0 (List.replicate 10 1)).inPos.toNat + (3 * (3#8).toNat + (3#8).toNat % 2) ≤
        (inFrame 2 4 1 0 (List.replicate 10 1)).inLen.toNat := by decide +kernel

theorem witness_TruncatedAbsoluteRunsKeepTheirLiterals :
    (inFrame 0 4 1 0 [1, 2, 3]).run = .rle ∧ 3 ≤ (3#8).toNat ∧
      (inFrame 0 4 1 0 [1, 2, 3]).inPos.toNat ≤ (inFrame 0 4 1 0 [1, 2, 3]).inLen.toNat ∧
      (inFrame 0 4 1 0 [1, 2, 3]).rleCtrl.toNat % 4 = 0 ∧
      (inFrame 0 4 1 0 [1, 2, 3]).inLen.toNat - (inFrame 0 4 1 0 [1, 2, 3]).inPos.toNat < (3#8).toNat + (3#8).toNat % 2 ∧
      (inFrame 1 4 1 0 [0x12]).rleCtrl.toNat % 4 = 1 ∧
      (inFrame 1 4 1 0 [0x12]).inLen.toNat - (inFrame 1 4 1 0 [0x12]).inPos.toNat <
        ((3#8).toNat + 1) / 2 + ((3#8).toNat + 1) / 2 % 2 ∧
      (inFrame 2 4 1 0 (List.replicate 9 1)).rleCtrl.toNat % 4 = 2 ∧
      (inFrame 2 4 1 0 (List.replicate 9 1)).cfg.hasRle24 = true ∧
      (inFrame 2 4 1 0 (List.replicate 9 1)).inLen.toNat - (inFrame 2 4 1 0 (List.replicate 9 1)).inPos.toNat <
        3 * (3#8).toNat + (3#8).toNat % 2 := by decide +kernel

theorem witness_RleEscapesMoveTheCursorOrEndTheDecode :
    (inFrame 0 4 3 1 [2, 1]).run = .rle ∧
      (inFrame 0 4 3 1 [2, 1]).inPos.toNat + 2 ≤ (inFrame 0 4 3 1 [2, 1]).inLen.toNat ∧
      (inFrame 0 4 3 1 [2]).inPos.toNat ≤ (inFrame 0 4 3 1 [2]).inLen.toNat ∧
      (inFrame 0 4 3 1 [2]).inLen.toNat < (inFrame 0 4 3 1 [2]).inPos.toNat + 2 := by decide +kernel

theorem witness_RleDecodeEndsAndTouchesOnlyItsFrame :
    (frameState 4 4 3 [0, 1]).run = .idle ∧ rleParamsOk (frameState 4 4 3 [0, 1]) = true := by decide +kernel

theorem witness_EmptyRleStreamGivesThePrefilledFrame :
    (frameState 10 4 3 []).run = .idle ∧ rleParamsOk (frameState 10 4 3 []) = true ∧
      (frameState 10 4 3 []).inPos = (frameState 10 4 3 []).inLen := by decide +kernel

theorem witness_CmeNewDerivesTheRecord :
    State.reset.run = .idle ∧ State.reset.cmeArg = 0 ∧ ({ State.reset with cmeArg := 0x80000000 } : State).cmeArg ≠ 0 := by decide +kernel

theorem witness_CmeExtractAndRgba :
    State.reset.run = .idle ∧ ({ State.reset with cm := State.reset.cm.set .a (colorMask 1) } : State).run = .idle := by decide +kernel

theorem witness_ExtractionIsMonotoneBoundedAndMasked :
    (0x0400#32 &&& 0x7C00#32).toNat ≤ (0x4000#32 &&& 0x7C00#32).toNat ∧
      (0x0400#32 &&& 0x7C00#32) = (0x87FF#32 &&& 0x7C00#32) := by decide +kernel

theorem witness_ChannelRecordChangesOnlyByItsCmeNewOrReset :
    nextOf (step (hostDo [.wr 0x060 7])) = some { State.reset with cmeArg := 7 } ∧
      (hostDo [.wr 0x060 7]).host.head? ≠ some .reset ∧ (hostDo [.wr 0x060 7]).host.head? ≠ some (.wr 0 0x20) := by decide +kernel

theorem witness_FxcDecConvertsEachChannel :
    State.reset.run = .idle ∧ ({ State.reset with fxcMode := 1 } : State).fxcMode.toNat < 2 ∧
      ({ State.reset with fxcMode := 2 } : State).fxcMode = 2 ∧ 2 < ({ State.reset with fxcMode := 3 } : State).fxcMode.toNat := by decide +kernel

theorem witness_FxcEncConvertsEachChannel :
    State.reset.run = .idle ∧ State.reset.fxcMode.toNat < 2 ∧
      ({ State.reset with fxcMode := 2 } : State).fxcMode = 2 ∧
      2 < ({ State.reset with fxcMode := 0xFFFFFFFF } : State).fxcMode.toNat := by decide +kernel

theorem witness_ConverterFunctionsMeetTheirTables :
    (0x8000#16).toInt ≤ 0 ∧ 8192 ≤ (0x2000#16).toInt ∧ 0 < (0x1FFF#16).toInt ∧ (0x1FFF#16).toInt < 8192 ∧
      (10#8).toNat ≤ 10 ∧ 11 ≤ (11#8).toNat := by decide +kernel

theorem witness_FxcEncThenDecIsTheIdentity :
    ({ State.reset with fxcMode := 1 } : State).run = .idle ∧ ({ State.reset with fxcMode := 1 } : State).fxcMode.toNat < 2 := by decide +kernel

theorem witness_ConverterFunctionsAreMonotone :
    (0x8000#16).toInt ≤ (0x7FFF#16).toInt ∧ (0#8).toNat ≤ (255#8).toNat := by decide +kernel

theorem witness_IcnUnpackWritesEveryPixelOfTheMask :
    (iconState 4 1 (List.replicate 16 0)).run = .idle ∧ unpackParamsOk (iconState 4 1 (List.replicate 16 0)) = true ∧
      (((iconState 4 1 (List.replicate 16 0)).icnMw.toNat + 7) / 8 + 3) / 4 * 4 *
          (iconState 4 1 (List.replicate 16 0)).icnMh.toNat ≤
        (iconState 4 1 (List.replicate 16 0)).inLen.toNat - (iconState 4 1 (List.replicate 16 0)).inPos.toNat ∧
      (iconState 4 1 []).icnCtrl.getLsbD 0 = true ∧ unpackParamsOk (iconState 4 0 (List.replicate 16 0)) = true ∧
      (iconState 4 0 []).icnCtrl.getLsbD 0 = false := by decide +kernel

theorem witness_IcnMonoBuildsTheFrameFromTheTwoHalves :
    (maskState 4).run = .idle ∧ monoParamsOk (maskState 4) = true ∧ (maskState 4).icnMh.toNat % 2 = 0 := by decide +kernel

theorem witness_IcnAlphaWritesOnlyTheAlphaBytes :
    (colourState 2).run = .idle ∧ alphaParamsOk (colourState 2) = true ∧ (colourState 2).icnMh.toNat % 2 = 0 ∧
      (colourState 2).imgW = (colourState 2).icnMw ∧ (colourState 2).imgH.toNat = (colourState 2).icnMh.toNat / 2 ∧
      alphaParamsOk (colourState 3) = true ∧ (colourState 3).imgW ≠ (colourState 3).icnMw := by decide +kernel

theorem witness_EveryCommandEnds :
    Instr.isCommand .icnAlpha = true ∧ State.reset.run = .idle := by decide +kernel

theorem witness_ErrorsArePrecise :
    Instr.isCommand .icnAlpha = true ∧ State.reset.run = .idle ∧
      after .icnAlpha State.reset (fun t => t.status.code.isError) = some true := by decide +kernel

theorem witness_NoInstructionLowersInPosOrWritesInPalOrTheTenHostOnlyRegisters :
    after (.absRle8 3) (inFrame 0 4 1 0 [1, 2, 3, 0]) (fun t => t.inPos) = some 4 ∧
      (inFrame 0 4 1 0 [1, 2, 3, 0]).inPos.toNat ≤ (inFrame 0 4 1 0 [1, 2, 3, 0]).inLen.toNat := by decide +kernel

theorem witness_StepFaultsExactlyOnIllegalHostAccesses :
    (hostDo [.load .pal 0 0]).run = .idle ∧
      HostAction.legal (hostDo [.load .pal 0 0]).cfg (.load .pal 0 0) = false ∧
      HostAction.legal (hostDo []).cfg (.wr 256 0) = false ∧ HostAction.legal (hostDo []).cfg (.wr 252 0) = true := by decide +kernel

theorem witness_StepKeepsTheMemoriesCanonical :
    (inFrame 0 4 1 0 [3, 5]).memoriesWf ∧ (nextOf (step (inFrame 0 4 1 0 [3, 5]))).isSome = true := by decide +kernel

theorem witness_StepKeepsTheBitBufferLegal :
    (inLine .white false 0 4 0x80000000).bufferLegal ∧
      (nextOf (step (inLine .white false 0 4 0x80000000))).isSome = true := by decide +kernel

theorem witness_StepKeepsTheChannelRecordsDerived :
    ({ hostDo [.wr 0 0x320] with cmeArg := 0x3FF00000 } : State).channelsLegal ∧
      (nextOf (step { hostDo [.wr 0 0x320] with cmeArg := 0x3FF00000 })).isSome = true := by decide +kernel

theorem witness_StepKeepsTheStatusLegal :
    (inLine .white false 5 12 0x00100000).statusLegal = true ∧
      (nextOf (step (inLine .white false 5 12 0x00100000))).isSome = true := by decide +kernel

theorem witness_StepKeepsAccessesInsideCapacity :
    (inFrame 0 4 1 0 [3, 5]).withinCapacity ∧ (inFrame 0 4 1 0 [3, 5]).progressLegal = true ∧
      (nextOf (step (inFrame 0 4 1 0 [3, 5]))).isSome = true := by decide +kernel

theorem witness_AtomicCommandIsTheRunOfItsTokens :
    (lineState 8 []).host.head? ≠ some .reset ∧ (lineState 8 [0x8E, 0x00]).run = .idle ∧ g3ParamsOk (lineState 8 [0x8E, 0x00]) = true ∧
      rleParamsOk (frameState 4 4 3 [0, 1]) = true := by decide +kernel

theorem witness_LineEndsWhereNoCodeWordIsRead :
    (inLine .white false 8 0 0).host.head? ≠ some .reset ∧
      (inLine .white false 8 0 0).run = .g3 { color := .white, acc := 0, midRun := false } ∧
      (inLine .white false 8 0 0).bufferLegal ∧ (inLine .white false 8 0 0).inPos.toNat ≤ (inLine .white false 8 0 0).inLen.toNat ∧
      (inLine .white false 8 0 0).g3Width.toNat ≤ (inLine .white false 8 0 0).g3X.toNat ∧
      (inLine .white false 7 0 0).g3X.toNat < (inLine .white false 7 0 0).g3Width.toNat ∧
      (inLine .white false 7 0 0).pendingBits = [] ∧ (inLine .black false 7 7 0).bufferLegal ∧
      decodeG3 .black true (refill (inLine .black false 7 7 0)).g3Buf (refill (inLine .black false 7 7 0)).g3Bits.toNat =
        .error .codeCutShort := by decide +kernel

theorem witness_LineEndsWhereNoCodeWordIsRead_by_a_scan :
    (inLine .black true 0 12 0x00100000).bufferLegal ∧
      decodeG3 .black false (refill (inLine .black true 0 12 0x00100000)).g3Buf
        (refill (inLine .black true 0 12 0x00100000)).g3Bits.toNat = .error .unrecognisedCode ∧
      (inLine .black true 0 12 0x00100000).pendingBits = [] ++ (List.replicate 11 false ++ [true]) ++ [] ∧
      (inLine .black false 7 8 0).bufferLegal ∧
      decodeG3 .black true (refill (inLine .black false 7 8 0)).g3Buf (refill (inLine .black false 7 8 0)).g3Bits.toNat =
        .error .unrecognisedCode ∧
      (inLine .black false 7 8 0).pendingBits = List.replicate 8 false := by decide +kernel

theorem witness_LineEndsWhereNoCodeWordIsRead_without_an_eol :
    ∀ k, ¬(List.replicate 11 false ++ [true]) <+: (inLine .black false 7 8 0).pendingBits.drop k := by
  intro k h
  have e : (inLine .black false 7 8 0).pendingBits = List.replicate 8 false := by decide +kernel
  have := h.length_le
  simp only [e, List.length_append, List.length_replicate, List.length_singleton, List.length_drop] at this
  omega

end Sys2Proof.Tests
end

section
/-! SUPPORT. The run of a command over its stream, one turn at a time: what a turn of each engine can be, that every turn reads
a bit or ends the command, and so that a command ends within its bound (70_reset_and_hazards.md R562). -/

namespace Sys2Proof.Machine

/-! ## Turns -/

/-- One turn of a command's loop: its next test, or its next token run. -/
def Turn (s t : State) : Prop :=
  fetchToken s = .done t ∨ ∃ i u, fetchToken s = .instr i u ∧ execToken i u = .next t

theorem runTokens_of_idle {s : State} (h : s.run = .idle) (n : Nat) : runTokens n s = .next s := by
  cases n <;> simp [runTokens, h]

theorem runTokens_succ_of_turn {s t : State} (h : s.run ≠ .idle) (ht : Turn s t) (n : Nat) :
    runTokens (n + 1) s = runTokens n t := by
  rw [runTokens, if_neg h]
  obtain hd | ⟨i, u, hi, he⟩ := ht
  · rw [hd]
  · rw [hi]; simp only [he]

/-- A command whose every turn reads a bit or ends it, as `Q` says, ends within one turn more than the bits left. -/
theorem runTokens_ends {P Q : State → Prop} (hrun : ∀ s, P s → s.run ≠ .idle)
    (hturn : ∀ s, P s → ∃ t, Turn s t ∧ ((t.run = .idle ∧ Q t) ∨ (P t ∧ bitsLeft t < bitsLeft s))) :
    ∀ (n : Nat) {s : State}, P s → bitsLeft s < n → ∃ t, runTokens n s = .next t ∧ t.run = .idle ∧ Q t := by
  intro n
  induction n with
  | zero => intro s _ h; exact absurd h (Nat.not_lt_zero _)
  | succ n ih =>
    intro s hs hn
    obtain ⟨t, ht, ⟨hidle, hq⟩ | ⟨hp, hlt⟩⟩ := hturn s hs
    · exact ⟨t, by rw [runTokens_succ_of_turn (hrun s hs) ht, runTokens_of_idle hidle], hidle, hq⟩
    · rw [runTokens_succ_of_turn (hrun s hs) ht]
      exact ih hp (by omega)

/-! ## A turn of `G3.LINE` (40_g3_huffman.md R140) -/

theorem atEol_bits {buf : Word} {bits : Nat} (h : Sys2Proof.atEol buf bits = true) : 12 ≤ bits := by
  simp only [Sys2Proof.atEol, Bool.and_eq_true, decide_eq_true_eq] at h
  exact h.1

/-- EOL at the start of a run is skipped at line start and ends the line elsewhere (R143, R147). -/
theorem execToken_eol {s : State} {r : G3Run} (hr : s.run = .g3 r) (hm : r.midRun = false) :
    execToken .eol s = .next (if s.g3X = 0 then consume 12 s else halt .ok earlyFlags (consume 12 s)) := by
  simp only [execToken, execEol, eolCode, hr, hm, Bool.false_eq_true, if_false]
  exact (apply_ite Host.Outcome.next _ _ _).symm

/-- What follows a refill inside a line: the line ends on a cut or an unrecognised code (R148, R149), an EOL is met (R147), or
a code word of the selected tree ends its run or goes on with it (R144 to R146). -/
theorem nextCode_cases {s : State} {r : G3Run} (hr : s.run = .g3 r) :
    nextCode r s = .done (raise .truncated s) ∨ nextCode r s = .done (abortLine s) ∨
    ∃ i t, nextCode r s = .instr i s ∧ execToken i s = .next t ∧
      ((12 ≤ s.g3Bits.toNat ∧ r.midRun = false ∧
          t = if s.g3X = 0 then consume 12 s else halt .ok earlyFlags (consume 12 s)) ∨
        ∃ row ∈ treeRows r.color, row.len ≤ s.g3Bits.toNat ∧
          (t = endRun r.color (satAdd r.acc row.run) (consume row.len s) ∨ t = makeup row.len row.run r s)) := by
  unfold nextCode
  cases hd : decodeG3 r.color (!r.midRun) s.g3Buf s.g3Bits.toNat with
  | error e => cases e <;> simp
  | ok p =>
    obtain ⟨i, len⟩ := p
    refine .inr (.inr ?_)
    obtain ⟨rfl, -, hm, he⟩ | ⟨hl, -⟩ := decodeG3_ok hd
    · have hm' : r.midRun = false := by simpa using hm
      exact ⟨.eol, _, rfl, execToken_eol hr hm', .inl ⟨atEol_bits he, hm', rfl⟩⟩
    · obtain ⟨⟨row, hmem, rfl, rfl⟩, hlen⟩ := lookup_ok hl
      obtain he | he := execToken_row hmem hr rfl
      · exact ⟨_, _, rfl, he, .inr ⟨row, hmem, hlen, .inl rfl⟩⟩
      · exact ⟨_, _, rfl, he, .inr ⟨row, hmem, hlen, .inr rfl⟩⟩

/-- An aborted line ends with `OK` or `TRUNCATED` (R148). -/
theorem abortLine_cases (s : State) :
    abortLine s = halt .ok badFlags (scanEol s).1 ∨ abortLine s = halt .truncated badFlags (scanEol s).1 := by
  unfold abortLine
  split
  · rename_i h; rw [h]; exact .inl rfl
  · rename_i h; rw [h]; exact .inr rfl

/-- The codes with which a stream command ends once its parameters are legal (60_exceptions.md R521, R528). -/
def EndedWithoutError (s : State) : Prop := s.status.code.isError = false

theorem EndedWithoutError.ne_errParam {s : State} (h : EndedWithoutError s) : s.status.code ≠ .errParam := by
  intro e
  rw [EndedWithoutError, e] at h
  exact absurd h (by decide)

/-- After a refill, a line ends or reads a bit. -/
theorem nextCode_progress {s : State} {r : G3Run} (hr : s.run = .g3 r) :
    ∃ t, (nextCode r s = .done t ∨ ∃ i, nextCode r s = .instr i s ∧ execToken i s = .next t) ∧
      ((t.run = .idle ∧ EndedWithoutError t) ∨ ((∃ r', t.run = .g3 r') ∧ bitsLeft t < bitsLeft s)) := by
  obtain h | h | ⟨i, t, hi, he, ht⟩ := nextCode_cases hr
  · exact ⟨_, .inl h, .inl ⟨rfl, rfl⟩⟩
  · refine ⟨_, .inl h, .inl ?_⟩
    obtain e | e := abortLine_cases s <;> rw [e] <;> exact ⟨rfl, rfl⟩
  · refine ⟨t, .inr ⟨i, hi, he⟩, ?_⟩
    obtain ⟨hbits, -, rfl⟩ | ⟨row, hmem, hlen, ht⟩ := ht
    · have hb := bitsLeft_consume hbits
      split
      · exact .inr ⟨⟨r, hr⟩, by omega⟩
      · exact .inl ⟨rfl, rfl⟩
    · have hb := bitsLeft_consume hlen
      have hrow := (row_lengths _ row hmem).1
      obtain rfl | rfl := ht
      · exact .inr ⟨⟨_, rfl⟩, show bitsLeft (consume row.len s) < _ by omega⟩
      · exact .inr ⟨⟨_, rfl⟩, show bitsLeft (consume row.len s) < _ by omega⟩

/-- A turn of a line ends it or reads a bit. -/
theorem g3_turn {s : State} (h : ∃ r, s.run = .g3 r) :
    ∃ t, Turn s t ∧ ((t.run = .idle ∧ EndedWithoutError t) ∨ ((∃ r, t.run = .g3 r) ∧ bitsLeft t < bitsLeft s)) := by
  obtain ⟨r, hr⟩ := h
  have hfetch : fetchToken s = fetchG3 r s := by rw [fetchToken, hr]
  have hrefill : (refill s).run = .g3 r := by rw [refill_frame s]; exact hr
  have hbits := bitsLeft_refill s
  unfold Turn
  rw [hfetch, fetchG3]
  split
  · obtain ⟨t, ht, hp⟩ := nextCode_progress hrefill
    exact ⟨t, ht.imp id fun ⟨i, hi⟩ => ⟨i, _, hi⟩, hbits ▸ hp⟩
  · split
    · exact ⟨_, .inl rfl, .inl ⟨rfl, rfl⟩⟩
    · split
      · exact ⟨_, .inl rfl, .inl ⟨rfl, rfl⟩⟩
      · obtain ⟨t, ht, hp⟩ := nextCode_progress (s := { refill s with run := .g3 { r with acc := 0 } }) rfl
        exact ⟨t, ht.imp id fun ⟨i, hi⟩ => ⟨i, _, hi⟩, hbits ▸ hp⟩

/-- `G3.LINE` with legal parameters ends, and not with an error. -/
theorem runCommand_startLine_ends (s : State) :
    ∃ t, runCommand (startLine s) = .next t ∧ t.run = .idle ∧ EndedWithoutError t :=
  runTokens_ends (P := fun s => ∃ r, s.run = .g3 r) (fun s ⟨r, hr⟩ => by simp [hr]) (fun _ => g3_turn) _ ⟨_, rfl⟩
    (by omega)

/-! ## A turn of `RLE.DECODE` (43_rle.md R424) -/

/-- `t` stands in the stream of `s`, at its cursor or after it. -/
def FurtherInStream (s t : State) : Prop :=
  t.inLen = s.inLen ∧ (s.inPos.toNat ≤ s.inLen.toNat → s.inPos.toNat ≤ t.inPos.toNat ∧ t.inPos.toNat ≤ s.inLen.toNat)

theorem FurtherInStream.of_eq {s t : State} (hl : t.inLen = s.inLen) (hp : t.inPos = s.inPos) : FurtherInStream s t :=
  ⟨hl, fun h => by rw [hp]; exact ⟨Nat.le_refl _, h⟩⟩

theorem FurtherInStream.trans {s t u : State} (h : FurtherInStream s t) (k : FurtherInStream t u) : FurtherInStream s u := by
  obtain ⟨hl, hp⟩ := h
  obtain ⟨kl, kp⟩ := k
  rw [hl] at kp
  refine ⟨kl.trans hl, fun h => ?_⟩
  have ht := hp h
  have hu := kp ht.2
  omega

theorem fetchByte_inPos {s t : State} {b : Byte} (hf : fetchByte s = some (b, t)) (h : s.inPos.toNat ≤ s.inLen.toNat) :
    t.inPos.toNat = s.inPos.toNat + 1 ∧ t.inPos.toNat ≤ s.inLen.toNat := by
  obtain ⟨hne, -, rfl⟩ := fetchByte_eq_some.1 hf
  have hlt : s.inPos.toNat < s.inLen.toNat := Nat.lt_of_le_of_ne h fun e => hne (BitVec.eq_of_toNat_eq e)
  have hs := inPos_succ hlt
  exact ⟨hs, hs ▸ hlt⟩

theorem fetchByte_further {s t : State} {b : Byte} (hf : fetchByte s = some (b, t)) : FurtherInStream s t := by
  refine ⟨by rw [fetchByte_same hf], fun h => ?_⟩
  have := fetchByte_inPos hf h
  omega

theorem put_further (p : Pixel) (s : State) : FurtherInStream s (put p s) := .of_eq rfl rfl

theorem literals8_further (n : Nat) (s : State) : FurtherInStream s (literals8 n s).state := by
  induction n generalizing s with
  | zero => exact .of_eq rfl rfl
  | succ n ih =>
    rw [literals8]
    split
    · exact .of_eq rfl rfl
    · exact ((fetchByte_further ‹_›).trans (put_further _ _)).trans (ih _)

theorem literals4_further : ∀ (n : Nat) (s : State), FurtherInStream s (literals4 n s).state
  | 0, s => .of_eq rfl rfl
  | 1, s => by
    rw [literals4]
    split
    · exact .of_eq rfl rfl
    · exact (fetchByte_further ‹_›).trans (put_further _ _)
  | n + 2, s => by
    rw [literals4]
    split
    · exact .of_eq rfl rfl
    · exact (((fetchByte_further ‹_›).trans (put_further _ _)).trans (put_further _ _)).trans (literals4_further n _)

theorem fetchTriplet_further (s : State) :
    (∀ t, fetchTriplet s = .error t → FurtherInStream s t) ∧ (∀ x t, fetchTriplet s = .ok (x, t) → FurtherInStream s t) := by
  unfold fetchTriplet
  split
  · exact ⟨fun t h => by cases h; exact .of_eq rfl rfl, fun x t h => by cases h⟩
  · rename_i h1
    have f1 := fetchByte_further h1
    split
    · exact ⟨fun t h => by cases h; exact f1, fun x t h => by cases h⟩
    · rename_i h2
      have f2 := f1.trans (fetchByte_further h2)
      split
      · exact ⟨fun t h => by cases h; exact f2, fun x t h => by cases h⟩
      · rename_i h3
        exact ⟨fun t h => (by cases h), fun x t h => by cases h; exact f2.trans (fetchByte_further h3)⟩

theorem literals24_further (n : Nat) (s : State) : FurtherInStream s (literals24 n s).state := by
  induction n generalizing s with
  | zero => exact .of_eq rfl rfl
  | succ n ih =>
    rw [literals24]
    split
    · exact (fetchTriplet_further s).1 _ ‹_›
    · exact (((fetchTriplet_further s).2 _ _ ‹_›).trans (put_further _ _)).trans (ih _)

theorem thenPad_further {odd : Bool} {p : Payload} {s : State} (h : FurtherInStream s p.state) :
    FurtherInStream s (thenPad odd p).state := by
  cases p with
  | error t => exact h
  | ok t =>
    refine h.trans ?_
    simp only [thenPad, padByte]
    split
    · split
      · exact .of_eq rfl rfl
      · exact fetchByte_further ‹_›
    · exact .of_eq rfl rfl

/-- A decode in progress at `s` goes on at `t`: the same mode, further in the same stream, the bit buffer not touched. -/
structure DecodeGoesOn (s t : State) : Prop where
  run : t.run = s.run
  mode : t.rleMode = s.rleMode
  bits : t.g3Bits = s.g3Bits
  further : FurtherInStream s t

theorem DecodeGoesOn.refl (s : State) : DecodeGoesOn s s := ⟨rfl, rfl, rfl, .of_eq rfl rfl⟩

theorem DecodeGoesOn.trans {s t u : State} (h : DecodeGoesOn s t) (k : DecodeGoesOn t u) : DecodeGoesOn s u :=
  ⟨k.run.trans h.run, k.mode.trans h.mode, k.bits.trans h.bits, h.further.trans k.further⟩

theorem SameButPixels.goesOn {s t : State} (h : SameButPixels s t) (k : FurtherInStream s t) : DecodeGoesOn s t :=
  ⟨by rw [h], by rw [h]; rfl, by rw [h], k⟩

theorem fetchByte_goesOn {s t : State} {b : Byte} (h : fetchByte s = some (b, t)) : DecodeGoesOn s t :=
  (fetchByte_same h).goesOn (fetchByte_further h)

theorem putRepeat_goesOn (n : Nat) (p : Pixel) (s : State) : DecodeGoesOn s (putRepeat n p s) :=
  forUpTo_keeps (DecodeGoesOn s) _ n s (fun _ _ t ht => ht.trans ((put_same p t).goesOn (put_further p t)))
    (.refl s)

theorem putNibbles_goesOn (n : Nat) (v : Byte) (s : State) : DecodeGoesOn s (putNibbles n v s) :=
  forUpTo_keeps (DecodeGoesOn s) _ n s (fun _ _ t ht => ht.trans ((put_same _ t).goesOn (put_further _ t)))
    (.refl s)

/-- What a stream command does to the decode at `s`: it goes on, or it ends there with `OK` or `TRUNCATED`. -/
def RleCommandFrom (s t : State) : Prop :=
  ∃ u, DecodeGoesOn s u ∧ (t = u ∨ t = finishRle .ok u ∨ t = finishRle .truncated u)

theorem RleCommandFrom.goesOn {s t : State} (h : DecodeGoesOn s t) : RleCommandFrom s t := ⟨t, h, .inl rfl⟩

theorem RleCommandFrom.truncated {s t : State} (h : DecodeGoesOn s t) : RleCommandFrom s (finishRle .truncated t) :=
  ⟨t, h, .inr (.inr rfl)⟩

theorem afterPayload_from {s : State} {p : Payload} (h : DecodeGoesOn s p.state) : RleCommandFrom s (afterPayload p) := by
  obtain e | e := afterPayload_cases p <;> rw [e]
  · exact .goesOn h
  · exact .truncated h

theorem runRle24_from (n b : Byte) (s : State) : RleCommandFrom s (runRle24 n b s) := by
  unfold runRle24
  split
  · exact .truncated (.refl s)
  · rename_i h1
    split
    · exact .truncated (fetchByte_goesOn h1)
    · rename_i h2
      exact .goesOn (((fetchByte_goesOn h1).trans (fetchByte_goesOn h2)).trans (putRepeat_goesOn _ _ _))

theorem rleDelta_from (s : State) : RleCommandFrom s (rleDelta s) := by
  unfold rleDelta
  split
  · exact .truncated (.refl s)
  · rename_i h1
    split
    · exact .truncated (fetchByte_goesOn h1)
    · rename_i h2
      exact .goesOn (((fetchByte_goesOn h1).trans (fetchByte_goesOn h2)).trans ⟨rfl, rfl, rfl, .of_eq rfl rfl⟩)

theorem absRle8_from (n : Byte) (s : State) : RleCommandFrom s (absRle8 n s) :=
  afterPayload_from ((thenPad_same (literals8_same _ s)).goesOn (thenPad_further (literals8_further _ s)))

theorem absRle4_from (n : Byte) (s : State) : RleCommandFrom s (absRle4 n s) :=
  afterPayload_from ((thenPad_same (literals4_same _ s)).goesOn (thenPad_further (literals4_further _ s)))

theorem absRle24_from (n : Byte) (s : State) : RleCommandFrom s (absRle24 n s) :=
  afterPayload_from ((thenPad_same (literals24_same _ s)).goesOn (thenPad_further (literals24_further _ s)))

/-- The command of a head is never refused inside its decode. -/
theorem execToken_decodeRle {m : RleMode} {s : State} (hr : s.run = .rle) (hm : s.rleMode = some m) (a b : Byte) :
    ∃ t, execToken (decodeRle m a b) s = .next t ∧ RleCommandFrom s t := by
  unfold decodeRle
  split
  · cases m with
    | rle8 => exact ⟨_, inRleMode_next.2 ⟨hr, hm, rfl⟩, .goesOn (putRepeat_goesOn _ _ s)⟩
    | rle4 => exact ⟨_, inRleMode_next.2 ⟨hr, hm, rfl⟩, .goesOn (putNibbles_goesOn _ _ s)⟩
    | rle24 => exact ⟨_, inRleMode_next.2 ⟨hr, hm, rfl⟩, runRle24_from a b s⟩
  split
  · exact ⟨_, inRle_next.2 ⟨hr, rfl⟩, .goesOn ⟨rfl, rfl, rfl, .of_eq rfl rfl⟩⟩
  split
  · exact ⟨_, inRle_next.2 ⟨hr, rfl⟩, s, .refl s, .inr (.inl rfl)⟩
  split
  · exact ⟨_, inRle_next.2 ⟨hr, rfl⟩, rleDelta_from s⟩
  · cases m with
    | rle8 => exact ⟨_, inRleMode_next.2 ⟨hr, hm, rfl⟩, absRle8_from b s⟩
    | rle4 => exact ⟨_, inRleMode_next.2 ⟨hr, hm, rfl⟩, absRle4_from b s⟩
    | rle24 => exact ⟨_, inRleMode_next.2 ⟨hr, hm, rfl⟩, absRle24_from b s⟩

/-- A decode in progress as its start leaves it: its mode implemented, its cursor inside the stream. -/
structure Decoding (s : State) : Prop where
  run : s.run = .rle
  mode : s.rleMode.isSome = true
  inPos : s.inPos.toNat ≤ s.inLen.toNat

theorem DecodeGoesOn.decoding {s t : State} (g : DecodeGoesOn s t) (h : Decoding s) : Decoding t := by
  obtain ⟨hlen, hpos⟩ := g.further
  exact ⟨g.run.trans h.run, g.mode ▸ h.mode, hlen ▸ (hpos h.inPos).2⟩

theorem DecodeGoesOn.bitsLeft_le {s t : State} (g : DecodeGoesOn s t) (h : Decoding s) : bitsLeft t ≤ bitsLeft s := by
  obtain ⟨hlen, hpos⟩ := g.further
  have := hpos h.inPos
  simp only [bitsLeft, hlen, g.bits]
  omega

theorem fetchByte_bitsLeft_lt {s t : State} {b : Byte} (hf : fetchByte s = some (b, t)) (h : Decoding s) :
    bitsLeft t < bitsLeft s := by
  have hg := fetchByte_goesOn hf
  have hpos := fetchByte_inPos hf h.inPos
  simp only [bitsLeft, hg.further.1, hg.bits]
  omega

/-- A turn of a decode ends it or reads its head's bits. -/
theorem rle_turn {s : State} (h : Decoding s) :
    ∃ t, Turn s t ∧ ((t.run = .idle ∧ EndedWithoutError t) ∨ (Decoding t ∧ bitsLeft t < bitsLeft s)) := by
  have hfetch : fetchToken s = fetchRle s := by rw [fetchToken, h.run]
  obtain ⟨m, hm⟩ := Option.isSome_iff_exists.1 h.mode
  unfold Turn
  rw [hfetch, fetchRle]
  split
  · exact ⟨_, .inl rfl, .inl ⟨rfl, rfl⟩⟩
  rw [hm]
  cases h1 : fetchByte s with
  | none => exact ⟨_, .inl rfl, .inl ⟨rfl, rfl⟩⟩
  | some p =>
    obtain ⟨a, s1⟩ := p
    have g1 := fetchByte_goesOn h1
    have d1 := g1.decoding h
    cases h2 : fetchByte s1 with
    | none => exact ⟨finishRle .truncated s1, .inl (by simp [h2]), .inl ⟨rfl, rfl⟩⟩
    | some q =>
      obtain ⟨b, s2⟩ := q
      have g2 := fetchByte_goesOn h2
      have d2 := g2.decoding d1
      obtain ⟨t, ht, u, gu, hu⟩ := execToken_decodeRle d2.run ((g1.trans g2).mode.trans hm) a b
      refine ⟨t, .inr ⟨_, s2, by simp [h2], ht⟩, ?_⟩
      obtain rfl | rfl | rfl := hu
      · refine .inr ⟨gu.decoding d2, ?_⟩
        calc bitsLeft t ≤ bitsLeft s2 := gu.bitsLeft_le d2
          _ ≤ bitsLeft s1 := g2.bitsLeft_le d1
          _ < bitsLeft s := fetchByte_bitsLeft_lt h1 h
      · exact .inl ⟨rfl, rfl⟩
      · exact .inl ⟨rfl, rfl⟩

/-- `RLE.DECODE` with a mode and a stream that are legal ends, and not with an error. -/
theorem runCommand_startRle_ends {s : State} (hm : s.rleMode.isSome = true) (hp : s.inPos.toNat ≤ s.inLen.toNat) :
    ∃ t, runCommand (startRle s) = .next t ∧ t.run = .idle ∧ EndedWithoutError t :=
  runTokens_ends (P := Decoding) (fun s h => by simp [h.run]) (fun _ => rle_turn) _ ⟨rfl, hm, hp⟩ (by omega)

end Sys2Proof.Machine
end

section
/-! SUPPORT. The parameter tests as conditions on the registers' numbers, and what every command does when they hold and when
they do not (60_exceptions.md R523); the two statements of this family. -/

namespace Sys2Proof

/-- A case split over the commands alone (30_encoding.md R92). -/
theorem Instr.command_cases {motive : (i : Instr) → i.isCommand = true → Prop} (nop : motive .nop rfl)
    (g3Reset : motive .g3Reset rfl) (g3Line : motive .g3Line rfl) (rleDecode : motive .rleDecode rfl)
    (cmeNew : ∀ ch, motive (.cmeNew ch) rfl) (cmeExtract : ∀ ch, motive (.cmeExtract ch) rfl)
    (cmeRgba : motive .cmeRgba rfl) (fxcDec : motive .fxcDec rfl) (fxcEnc : motive .fxcEnc rfl)
    (icnUnpack1 : motive .icnUnpack1 rfl) (icnMono : motive .icnMono rfl) (icnAlpha : motive .icnAlpha rfl)
    (i : Instr) (h : i.isCommand = true) : motive i h := by
  cases i with
  | nop => exact nop
  | g3Reset => exact g3Reset
  | g3Line => exact g3Line
  | rleDecode => exact rleDecode
  | cmeNew ch => exact cmeNew ch
  | cmeExtract ch => exact cmeExtract ch
  | cmeRgba => exact cmeRgba
  | fxcDec => exact fxcDec
  | fxcEnc => exact fxcEnc
  | icnUnpack1 => exact icnUnpack1
  | icnMono => exact icnMono
  | icnAlpha => exact icnAlpha
  | _ => exact absurd h Bool.false_ne_true

end Sys2Proof

namespace Sys2Proof.Machine

/-! ## The tests by their numbers -/

theorem highBits_eq_zero_iff (w : Word) {k n : Nat} (h : k + n = 32) : w.extractLsb' k n = 0#n ↔ w.toNat < 2 ^ k := by
  have hw : w.toNat < 2 ^ k * 2 ^ n := by rw [← Nat.pow_add, h]; exact w.isLt
  have hq : w.toNat / 2 ^ k < 2 ^ n := Nat.div_lt_of_lt_mul hw
  rw [← BitVec.toNat_inj, BitVec.extractLsb'_toNat, Nat.shiftRight_eq_div_pow, Nat.mod_eq_of_lt hq]
  simp [Nat.div_eq_zero_iff]

theorem streamOk_iff (s : State) :
    streamOk s = true ↔ s.inPos.toNat ≤ s.inLen.toNat ∧ s.inLen.toNat ≤ s.cfg.inSize := by
  simp [streamOk]

theorem maxDim_eq : maxDim = 2 ^ 31 - 1 := rfl

theorem dimOk_iff (d : Word) : dimOk d = true ↔ 1 ≤ d.toNat ∧ d.toNat ≤ 2 ^ 31 - 1 := by
  rw [dimOk, Bool.and_eq_true, decide_eq_true_iff, decide_eq_true_iff, maxDim_eq]

theorem frameFits_iff (w h size : Nat) : frameFits w h size = true ↔ 4 * w * h ≤ size := decide_eq_true_iff

/-- A mode is implemented unless it is 3, or 2 without RLE24 (log 6). -/
theorem rleMode_isSome_iff (s : State) :
    s.rleMode.isSome = true ↔ s.rleCtrl.toNat % 4 ≠ 3 ∧ (s.rleCtrl.toNat % 4 = 2 → s.cfg.hasRle24 = true) := by
  have hlt : s.rleCtrl.toNat % 4 < 4 := Nat.mod_lt _ (by omega)
  constructor
  · intro h
    obtain ⟨m, hm⟩ := Option.isSome_iff_exists.1 h
    cases m with
    | rle8 => have := rleMode_eq_rle8.1 hm; omega
    | rle4 => have := rleMode_eq_rle4.1 hm; omega
    | rle24 => have := rleMode_eq_rle24.1 hm; exact ⟨by omega, fun _ => this.2⟩
  · rintro ⟨h3, h24⟩
    obtain h | h | h : s.rleCtrl.toNat % 4 = 0 ∨ s.rleCtrl.toNat % 4 = 1 ∨ s.rleCtrl.toNat % 4 = 2 := by omega
    · rw [rleMode_eq_rle8.2 h]; rfl
    · rw [rleMode_eq_rle4.2 h]; rfl
    · rw [rleMode_eq_rle24.2 ⟨h, h24 h⟩]; rfl

theorem g3ParamsOk_iff (s : State) :
    g3ParamsOk s = true ↔
      s.g3Ctrl.toNat < 2 ∧ s.g3Width.toNat ≤ min (2 ^ 31 - 1) s.cfg.lbSize ∧ streamOk s = true := by
  simp only [g3ParamsOk, Bool.and_eq_true, beq_iff_eq, highBits_eq_zero_iff, decide_eq_true_eq, and_assoc,
    Nat.reduceAdd, Nat.pow_one]
  rw [maxDim_eq]

theorem rleParamsOk_iff (s : State) :
    rleParamsOk s = true ↔
      s.rleCtrl.toNat < 16 ∧ s.rleMode.isSome = true ∧ dimOk s.imgW = true ∧ dimOk s.imgH = true ∧
        s.palCount.toNat ≤ 256 ∧ 4 * s.imgW.toNat * s.imgH.toNat ≤ s.cfg.fbSize ∧ streamOk s = true := by
  simp only [rleParamsOk, Bool.and_eq_true, beq_iff_eq, highBits_eq_zero_iff, decide_eq_true_eq, frameFits_iff, and_assoc,
    Nat.reduceAdd, Nat.reducePow]

theorem fxcModeField_eq_reserved_iff (s : State) : s.fxcModeField = .reserved ↔ s.fxcMode.toNat % 4 = 3 := by
  have e0 := lowTwo_eq_iff (w := s.fxcMode) (n := 0) (by omega)
  have e1 := lowTwo_eq_iff (w := s.fxcMode) (n := 1) (by omega)
  have e2 := lowTwo_eq_iff (w := s.fxcMode) (n := 2) (by omega)
  simp only [State.fxcModeField, e0, e1, e2]
  obtain h | h | h | h : s.fxcMode.toNat % 4 = 0 ∨ s.fxcMode.toNat % 4 = 1 ∨ s.fxcMode.toNat % 4 = 2 ∨
      s.fxcMode.toNat % 4 = 3 := by omega
  all_goals simp [h]

theorem fxcParamsOk_iff (s : State) : fxcParamsOk s = true ↔ s.fxcMode.toNat < 4 ∧ s.fxcMode.toNat ≠ 3 := by
  simp only [fxcParamsOk, Bool.and_eq_true, beq_iff_eq, highBits_eq_zero_iff, decide_eq_true_eq, ne_eq,
    fxcModeField_eq_reserved_iff, Nat.reduceAdd, Nat.reducePow]
  omega

theorem maskImageOk_iff (s : State) :
    maskImageOk s = true ↔
      dimOk s.icnMw = true ∧ dimOk s.icnMh = true ∧ 4 * s.icnMw.toNat * s.icnMh.toNat ≤ s.cfg.mbSize := by
  simp only [maskImageOk, Bool.and_eq_true, frameFits_iff, and_assoc]

theorem unpackParamsOk_iff (s : State) :
    unpackParamsOk s = true ↔
      s.icnCtrl.toNat < 2 ∧ maskImageOk s = true ∧ s.palCount.toNat ≤ 256 ∧ streamOk s = true := by
  simp only [unpackParamsOk, Bool.and_eq_true, beq_iff_eq, highBits_eq_zero_iff, decide_eq_true_eq, and_assoc,
    Nat.reduceAdd, Nat.reducePow]

theorem monoParamsOk_iff (s : State) :
    monoParamsOk s = true ↔
      maskImageOk s = true ∧ 4 * s.icnMw.toNat * (s.icnMh.toNat / 2) ≤ s.cfg.fbSize := by
  simp only [monoParamsOk, Bool.and_eq_true, frameFits_iff]

theorem alphaParamsOk_iff (s : State) :
    alphaParamsOk s = true ↔
      maskImageOk s = true ∧ dimOk s.imgW = true ∧ dimOk s.imgH = true ∧
        4 * s.imgW.toNat * s.imgH.toNat ≤ s.cfg.fbSize := by
  simp only [alphaParamsOk, Bool.and_eq_true, frameFits_iff, and_assoc]

/-! ## What each command does from no command in progress -/

theorem whenIdle_of_idle {s : State} (h : s.run = .idle) (k : State → State) : whenIdle s k = .next (k s) :=
  whenIdle_next.2 ⟨h, rfl⟩

section
variable {s : State} (h : s.run = .idle)
include h

theorem exec_nop : exec .nop s = .next (halt .ok {} s) := by
  rw [show exec .nop s = execNop s from rfl, execNop, whenIdle_of_idle h]

theorem exec_g3Reset : exec .g3Reset s = .next (halt .ok {} (resetBuffer s)) := by
  rw [show exec .g3Reset s = execG3Reset s from rfl, execG3Reset, whenIdle_of_idle h]

theorem exec_g3Line :
    exec .g3Line s = if g3ParamsOk s then runCommand (startLine s) else .next (raise .errParam s) := by
  rw [show exec .g3Line s = execG3Line s from rfl, execG3Line, h]

theorem exec_rleDecode :
    exec .rleDecode s = if rleParamsOk s then runCommand (startRle s) else .next (raise .errParam s) := by
  rw [show exec .rleDecode s = execRleDecode s from rfl, execRleDecode, h]

theorem exec_cmeNew (ch : Channel) :
    exec (.cmeNew ch) s = .next (halt .ok {} { s with cm := s.cm.set ch (colorMask s.cmeArg) }) := by
  rw [show exec (.cmeNew ch) s = execCmeNew ch s from rfl, execCmeNew, whenIdle_of_idle h]

theorem exec_cmeExtract (ch : Channel) :
    exec (.cmeExtract ch) s = .next (halt .ok {} { s with cmeRes := (extract (s.cm.get ch) s.cmeArg).setWidth 32 }) := by
  rw [show exec (.cmeExtract ch) s = execCmeExtract ch s from rfl, execCmeExtract, whenIdle_of_idle h]

theorem exec_cmeRgba :
    exec .cmeRgba s =
      .next (halt .ok (alphaFlags s.cm.a.present) { s with cmeRes := (extractPixel s.cm s.cmeArg).word }) := by
  rw [show exec .cmeRgba s = execCmeRgba s from rfl, execCmeRgba, whenIdle_of_idle h]

theorem exec_fxcDec :
    exec .fxcDec s =
      .next
        (fxcChecked s { s with fxcRgba := (decodePixel s.fxcModeField s.fxcLo s.fxcHi).word } (alphaFlags true)) := by
  rw [show exec .fxcDec s = execFxcDec s from rfl, execFxcDec, whenIdle_of_idle h]

theorem exec_fxcEnc :
    exec .fxcEnc s =
      .next
        (fxcChecked s
          { s with
            fxcLo := encodeLo s.fxcModeField (pixelOfWord s.fxcRgba)
            fxcHi := encodeHi s.fxcModeField (pixelOfWord s.fxcRgba) }
          {}) := by
  rw [show exec .fxcEnc s = execFxcEnc s from rfl, execFxcEnc, whenIdle_of_idle h]

theorem exec_icnUnpack1 :
    exec .icnUnpack1 s =
      .next
        (if unpackParamsOk s = false then raise .errParam s
        else if shortInput s then raise .errShortInput s
        else halt .ok {} (unpackImage s)) := by
  rw [show exec .icnUnpack1 s = execIcnUnpack1 s from rfl, execIcnUnpack1, whenIdle_of_idle h]

theorem exec_icnMono :
    exec .icnMono s =
      .next
        (if monoParamsOk s = false then raise .errParam s
        else if oddHeight s then raise .errOddHeight s
        else
          halt .ok (alphaFlags true)
            { s with imgW := s.icnMw, imgH := BitVec.ofNat 32 (icnHalf s), fb := monoFrame s }) := by
  rw [show exec .icnMono s = execIcnMono s from rfl, execIcnMono, whenIdle_of_idle h]

theorem exec_icnAlpha :
    exec .icnAlpha s =
      .next
        (if alphaParamsOk s = false then raise .errParam s
        else if oddHeight s then raise .errOddHeight s
        else if sizeMismatch s then halt .ok noopFlags s
        else halt .ok (alphaFlags true) { s with fb := alphaFrame s }) := by
  rw [show exec .icnAlpha s = execIcnAlpha s from rfl, execIcnAlpha, whenIdle_of_idle h]

end

/-- With no command in progress, `raise` writes `PDU_STATUS` alone. -/
theorem raise_of_idle {s : State} (h : s.run = .idle) (c : ResultCode) :
    raise c s = { s with status := endStatus c {} } := by
  simp only [raise, halt, endStatus, ← h]

/-! ## Every command under its test -/

/-- The test of a command; those without register operands have none (R523). -/
def commandParamsOk : Instr → State → Bool
  | .g3Line, s => g3ParamsOk s
  | .rleDecode, s => rleParamsOk s
  | .fxcDec, s => fxcParamsOk s
  | .fxcEnc, s => fxcParamsOk s
  | .icnUnpack1, s => unpackParamsOk s
  | .icnMono, s => monoParamsOk s
  | .icnAlpha, s => alphaParamsOk s
  | _, _ => true

theorem fxcChecked_of_illegal {s : State} (h : fxcParamsOk s = false) (t : State) (f : ResultFlags) :
    fxcChecked s t f = raise .errParam s := if_pos h

theorem fxcChecked_of_legal {s : State} (h : fxcParamsOk s = true) (t : State) (f : ResultFlags) :
    (fxcChecked s t f).status.code ≠ .errParam := by
  rw [fxcChecked, if_neg (by simp [h])]
  split <;> simp

theorem exec_of_illegal_params {i : Instr} {s : State} (hi : i.isCommand = true) (hr : s.run = .idle)
    (h : commandParamsOk i s = false) : exec i s = .next (raise .errParam s) := by
  cases i, hi using Instr.command_cases with dsimp only [commandParamsOk] at h
  | nop | g3Reset | cmeNew | cmeExtract | cmeRgba => cases h
  | g3Line => rw [exec_g3Line hr, if_neg (by simp [h])]
  | rleDecode => rw [exec_rleDecode hr, if_neg (by simp [h])]
  | fxcDec => rw [exec_fxcDec hr, fxcChecked_of_illegal h]
  | fxcEnc => rw [exec_fxcEnc hr, fxcChecked_of_illegal h]
  | icnUnpack1 => rw [exec_icnUnpack1 hr, if_pos h]
  | icnMono => rw [exec_icnMono hr, if_pos h]
  | icnAlpha => rw [exec_icnAlpha hr, if_pos h]

/-- Under a test that holds, the two stream commands end without an error, and no other test raises `ERR_PARAM`. -/
theorem exec_of_legal_params {i : Instr} {s : State} (hi : i.isCommand = true) (hr : s.run = .idle)
    (h : commandParamsOk i s = true) : ∃ t, exec i s = .next t ∧ t.status.code ≠ .errParam := by
  cases i, hi using Instr.command_cases with dsimp only [commandParamsOk] at h
  | nop => exact ⟨_, exec_nop hr, by simp⟩
  | g3Reset => exact ⟨_, exec_g3Reset hr, by simp⟩
  | cmeNew ch => exact ⟨_, exec_cmeNew hr ch, by simp⟩
  | cmeExtract ch => exact ⟨_, exec_cmeExtract hr ch, by simp⟩
  | cmeRgba => exact ⟨_, exec_cmeRgba hr, by simp⟩
  | g3Line =>
    obtain ⟨t, ht, -, he⟩ := runCommand_startLine_ends s
    exact ⟨t, by rw [exec_g3Line hr, if_pos h, ht], he.ne_errParam⟩
  | rleDecode =>
    obtain ⟨-, hm, -, -, -, -, hstream⟩ := (rleParamsOk_iff s).1 h
    obtain ⟨t, ht, -, he⟩ := runCommand_startRle_ends hm ((streamOk_iff s).1 hstream).1
    exact ⟨t, by rw [exec_rleDecode hr, if_pos h, ht], he.ne_errParam⟩
  | fxcDec => exact ⟨_, exec_fxcDec hr, fxcChecked_of_legal h _ _⟩
  | fxcEnc => exact ⟨_, exec_fxcEnc hr, fxcChecked_of_legal h _ _⟩
  | icnUnpack1 =>
    refine ⟨_, exec_icnUnpack1 hr, ?_⟩
    rw [if_neg (by simp [h])]
    split <;> simp
  | icnMono =>
    refine ⟨_, exec_icnMono hr, ?_⟩
    rw [if_neg (by simp [h])]
    split <;> simp
  | icnAlpha =>
    refine ⟨_, exec_icnAlpha hr, ?_⟩
    rw [if_neg (by simp [h])]
    split
    · simp
    · split <;> simp

/-- A condition that says what a command's test says decides whether the command ends with `ERR_PARAM`. -/
theorem errParam_unless {i : Instr} {s : State} {legal : Prop} (hi : i.isCommand = true) (hr : s.run = .idle)
    (hlegal : legal ↔ commandParamsOk i s = true) :
    (¬legal → exec i s = .next { s with status := endStatus .errParam {} }) ∧
      (legal → ∃ t, exec i s = .next t ∧ t.status.code ≠ .errParam) := by
  refine ⟨fun h => ?_, fun h => exec_of_legal_params hi hr (hlegal.1 h)⟩
  have hbad : commandParamsOk i s = false := by simpa [hlegal] using h
  rw [exec_of_illegal_params hi hr hbad, raise_of_idle hr]

/-- Settles O28: the table of R523 says of each command what its test says, and the test decides. -/
theorem illegalParametersRaiseErrParam : Obligations.IllegalParametersRaiseErrParam := by
  unfold Obligations.IllegalParametersRaiseErrParam
  intro s i hr
  dsimp only
  intro hi
  refine errParam_unless hi hr ?_
  cases i, hi using Instr.command_cases with
  | nop | g3Reset | cmeNew | cmeExtract | cmeRgba => simp [commandParamsOk]
  | g3Line => simp [commandParamsOk, g3ParamsOk_iff, streamOk_iff]
  | rleDecode => simp [commandParamsOk, rleParamsOk_iff, rleMode_isSome_iff, dimOk_iff, streamOk_iff, and_assoc]
  | fxcDec | fxcEnc => simp [commandParamsOk, fxcParamsOk_iff]
  | icnUnpack1 => simp [commandParamsOk, unpackParamsOk_iff, maskImageOk_iff, dimOk_iff, streamOk_iff]
  | icnMono => simp [commandParamsOk, monoParamsOk_iff, maskImageOk_iff, dimOk_iff]
  | icnAlpha => simp [commandParamsOk, alphaParamsOk_iff, maskImageOk_iff, dimOk_iff]

/-! ## The reset state -/

theorem colorMask_zero : colorMask 0 = .absent := if_pos rfl

/-- At reset no memory lists a byte, so each is canonical and inside its capacity (70_reset_and_hazards.md R552). -/
theorem reset_memories : State.reset.memoriesWf ∧ State.reset.withinCapacity := by
  simp [State.memoriesWf, State.withinCapacity, State.reset]

theorem reset_bufferLegal : State.reset.bufferLegal := ⟨by decide, fun k _ => BitVec.getLsbD_zero⟩

theorem reset_channelsLegal : State.reset.channelsLegal :=
  ⟨colorMask_zero.symm, colorMask_zero.symm, colorMask_zero.symm, colorMask_zero.symm⟩

/-- Settles O58, clause by clause of `State.safe`; the capacities are those of log 4. -/
theorem resetStateIsSafe : Obligations.ResetStateIsSafe := by
  obtain ⟨hwf, hcap⟩ := reset_memories
  have hstatus : State.reset.statusLegal = true := by decide
  have hprogress : State.reset.progressLegal = true := rfl
  have hcfg : State.reset.cfg.legal = true := by decide
  exact ⟨⟨hwf, hcap, reset_bufferLegal, reset_channelsLegal, hstatus, hprogress⟩, hcfg⟩

end Sys2Proof.Machine
end

section
/-! SUPPORT. What an instruction is made of: the few changes of the state out of which every command and every token is
built, and what one step can be, each said once. The invariants of the state follow from these. -/

namespace Sys2Proof.Machine

/-! ## The changes an instruction is made of -/

/-- `t` is `s` but for the registers and the memories that hold what an engine computes. -/
def Computed (s t : State) : Prop :=
  t =
    { s with
      imgW := t.imgW, imgH := t.imgH, g3X := t.g3X, rleX := t.rleX, rleY := t.rleY, cmeRes := t.cmeRes, fxcLo := t.fxcLo
      fxcHi := t.fxcHi, fxcRgba := t.fxcRgba, lb := t.lb, mb := t.mb, fb := t.fb }

/-- One change that an instruction makes. -/
inductive Effect : State → State → Prop
  /-- A result is written. -/
  | computed {s t : State} (h : Computed s t) : Effect s t
  /-- Stream bytes are fetched and pixels are drawn at the cursor (20_memory.md R65; 43_rle.md R423). -/
  | drew {s t : State} (h : SameButPixels s t) (further : FurtherInStream s t) : Effect s t
  /-- The bit buffer is filled from the stream (40_g3_huffman.md R132). -/
  | refilled (s : State) : Effect s (refill s)
  /-- Bits are taken from the buffer (R133). -/
  | consumed (k : Nat) (s : State) : Effect s (consume k s)
  /-- The buffer is dropped (R131, R139). -/
  | emptied (s : State) : Effect s (emptyBuffer s)
  /-- A channel record is derived from `CME_ARG` (44_color_mask.md R451). -/
  | derived (ch : Channel) (s : State) : Effect s { s with cm := s.cm.set ch (colorMask s.cmeArg) }
  /-- A command starts. -/
  | begun {r : Running} (h : r ≠ .idle) (s : State) : Effect s (beginCommand r s)
  /-- A line in progress goes on. -/
  | lineGoesOn {s : State} {r : G3Run} (h : s.run = .g3 r) (r' : G3Run) : Effect s { s with run := .g3 r' }
  /-- A command ends, with a code and flags that the rules produce (10_state.md R37; 60_exceptions.md R521). -/
  | halted {c : ResultCode} {f : ResultFlags} (h : (endStatus c f).legal = true) (s : State) : Effect s (halt c f s)

/-- Changes one after another. -/
abbrev Effects : State → State → Prop := Relation.ReflTransGen Effect

theorem Effect.effects {s t : State} (h : Effect s t) : Effects s t := .single h

/-- What every change keeps, changes one after another keep. -/
theorem Effects.keeps {P : State → Prop} (hP : ∀ s t, Effect s t → P s → P t) {s t : State} (h : Effects s t) (hs : P s) :
    P t := by
  induction h with
  | refl => exact hs
  | tail _ h ih => exact hP _ _ h ih

/-- A loop whose every turn is changes is changes. -/
theorem forUpTo_effects {f : Nat → State → State} (hf : ∀ k s, Effects s (f k s)) (n : Nat) (s : State) :
    Effects s (forUpTo n f s) :=
  forUpTo_keeps (Effects s) f n s (fun k _ t ht => ht.trans (hf k t)) .refl

/-! ## Ends of commands -/

theorem endStatus_error_legal (c : ResultCode) : (endStatus c {}).legal = true := by cases c <;> rfl

/-- Without an error, `HAS_ALPHA` may be either (10_state.md R37). -/
theorem endStatus_alpha_legal {c : ResultCode} (h : c.isError = false) (b : Bool) :
    (endStatus c (alphaFlags b)).legal = true := by
  cases c with
  | ok | truncated | rowsDone => cases b <;> rfl
  | errIllegalCmd | errParam | errOddHeight | errUnsupported | errShortInput => cases h

theorem endStatus_bad_legal : (endStatus .ok badFlags).legal = true ∧ (endStatus .truncated badFlags).legal = true :=
  ⟨rfl, rfl⟩

theorem raise_effects (c : ResultCode) (s : State) : Effects s (raise c s) :=
  (Effect.halted (endStatus_error_legal c) s).effects

theorem finishRle_effects {c : ResultCode} (h : c.isError = false) (s : State) : Effects s (finishRle c s) :=
  (Effect.halted (endStatus_alpha_legal h _) s).effects

/-! ## The tokens of a line (40_g3_huffman.md R139 to R149) -/

theorem endRun_effects {s : State} {r : G3Run} (hr : s.run = .g3 r) (c : Color) (n : Nat) : Effects s (endRun c n s) :=
  .tail (Effect.computed (s := s) (t := { endRun c n s with run := s.run }) rfl).effects
    (.lineGoesOn (s := { endRun c n s with run := s.run }) hr _)

theorem makeup_effects {s : State} {r : G3Run} (hr : s.run = .g3 r) (len n : Nat) : Effects s (makeup len n r s) :=
  .tail (Effect.consumed len s).effects (.lineGoesOn (s := consume len s) hr _)

theorem terminalCode_effects {c : Color} {len n : Nat} {s t : State} (h : terminalCode c len n s = .next t) :
    Effects s t := by
  unfold terminalCode at h
  split at h
  · rename_i r hr
    split at h
    · cases h
      exact .trans (Effect.consumed len s).effects (endRun_effects (s := consume len s) hr c _)
    · cases h
  · cases h
  · cases h

theorem makeupCode_effects {c : Color} {len n : Nat} {s t : State} (h : makeupCode c len n s = .next t) : Effects s t := by
  unfold makeupCode at h
  split at h
  · rename_i r hr
    split at h
    · cases h; exact makeup_effects hr len n
    · cases h
  · cases h
  · cases h

theorem sharedCode_effects {len n : Nat} {s t : State} (h : sharedCode len n s = .next t) : Effects s t := by
  unfold sharedCode at h
  split at h
  · cases h; exact makeup_effects ‹_› len n
  · cases h
  · cases h

theorem eolCode_effects {s t : State} (h : eolCode s = .next t) : Effects s t := by
  unfold eolCode at h
  split at h
  · split at h
    · cases h
    · split at h
      · cases h; exact (Effect.consumed 12 s).effects
      · cases h; exact .tail (Effect.consumed 12 s).effects (.halted rfl _)
  · cases h
  · cases h

theorem scanEolUpTo_effects (n : Nat) (s : State) : Effects s (scanEolUpTo n s).1 := by
  induction n generalizing s with
  | zero => exact (Effect.emptied s).effects
  | succ n ih =>
    have hfill : Effects s (refill s) := (Effect.refilled s).effects
    rw [scanEolUpTo]
    split
    · exact hfill.tail (.emptied _)
    · split
      · exact hfill.tail (.consumed 12 _)
      · exact (hfill.tail (.consumed 1 _)).trans (ih _)

theorem abortLine_effects (s : State) : Effects s (abortLine s) := by
  obtain ⟨hok, htruncated⟩ := endStatus_bad_legal
  have hscan : Effects s (scanEol s).1 := scanEolUpTo_effects _ s
  obtain e | e := abortLine_cases s <;> rw [e]
  · exact hscan.tail (.halted hok _)
  · exact hscan.tail (.halted htruncated _)

/-! ## The commands of an RLE stream (43_rle.md R425 to R434) -/

theorem fetchByte_effects {s t : State} {b : Byte} (h : fetchByte s = some (b, t)) : Effects s t :=
  (Effect.drew (fetchByte_same h) (fetchByte_further h)).effects

theorem putRepeat_effects (n : Nat) (p : Pixel) (s : State) : Effects s (putRepeat n p s) :=
  (Effect.drew (putRepeat_same n p s) (putRepeat_goesOn n p s).further).effects

theorem putNibbles_effects (n : Nat) (v : Byte) (s : State) : Effects s (putNibbles n v s) :=
  (Effect.drew (putNibbles_same n v s) (putNibbles_goesOn n v s).further).effects

theorem runRle24_effects (n b : Byte) (s : State) : Effects s (runRle24 n b s) := by
  unfold runRle24
  split
  · exact finishRle_effects rfl s
  · rename_i h1
    split
    · exact (fetchByte_effects h1).trans (finishRle_effects rfl _)
    · rename_i h2
      exact ((fetchByte_effects h1).trans (fetchByte_effects h2)).trans (putRepeat_effects _ _ _)

theorem rleDelta_effects (s : State) : Effects s (rleDelta s) := by
  unfold rleDelta
  split
  · exact finishRle_effects rfl s
  · rename_i h1
    split
    · exact (fetchByte_effects h1).trans (finishRle_effects rfl _)
    · rename_i h2
      exact ((fetchByte_effects h1).trans (fetchByte_effects h2)).tail (.computed rfl)

/-- An absolute run draws what is there of its literals, and ends the decode if they are cut. -/
theorem afterPayload_effects {s : State} {odd : Bool} {p : Payload} (h : SameButPixels s p.state)
    (further : FurtherInStream s p.state) : Effects s (afterPayload (thenPad odd p)) := by
  have hdrew : Effects s (thenPad odd p).state := (Effect.drew (thenPad_same h) (thenPad_further further)).effects
  obtain e | e := afterPayload_cases (thenPad odd p) <;> rw [e]
  · exact hdrew
  · exact hdrew.trans (finishRle_effects rfl _)

theorem inRle_effects {s t : State} {k : State → State} (hk : Effects s (k s)) (h : inRle s k = .next t) : Effects s t := by
  obtain ⟨-, rfl⟩ := inRle_next.1 h
  exact hk

theorem inRleMode_effects {m : RleMode} {s t : State} {k : State → State} (hk : Effects s (k s))
    (h : inRleMode m s k = .next t) : Effects s t := by
  obtain ⟨-, -, rfl⟩ := inRleMode_next.1 h
  exact hk

/-! ## Every token, and the run of a command -/

theorem execToken_effects {i : Instr} {s t : State} (h : execToken i s = .next t) : Effects s t := by
  cases i with
  | wt0 | wt1 | wt2 | wt3 | wt4 | wt5 | wt6 | wt7 | wt8 | wt9 | wt10 | wt11 | wt12 | wt13 | wt14 | wt15 | wt16 | wt17
  | wt18 | wt19 | wt20 | wt21 | wt22 | wt23 | wt24 | wt25 | wt26 | wt27 | wt28 | wt29 | wt30 | wt31 | wt32 | wt33 | wt34
  | wt35 | wt36 | wt37 | wt38 | wt39 | wt40 | wt41 | wt42 | wt43 | wt44 | wt45 | wt46 | wt47 | wt48 | wt49 | wt50 | wt51
  | wt52 | wt53 | wt54 | wt55 | wt56 | wt57 | wt58 | wt59 | wt60 | wt61 | wt62 | wt63 => exact terminalCode_effects h
  | bt0 | bt1 | bt2 | bt3 | bt4 | bt5 | bt6 | bt7 | bt8 | bt9 | bt10 | bt11 | bt12 | bt13 | bt14 | bt15 | bt16 | bt17
  | bt18 | bt19 | bt20 | bt21 | bt22 | bt23 | bt24 | bt25 | bt26 | bt27 | bt28 | bt29 | bt30 | bt31 | bt32 | bt33 | bt34
  | bt35 | bt36 | bt37 | bt38 | bt39 | bt40 | bt41 | bt42 | bt43 | bt44 | bt45 | bt46 | bt47 | bt48 | bt49 | bt50 | bt51
  | bt52 | bt53 | bt54 | bt55 | bt56 | bt57 | bt58 | bt59 | bt60 | bt61 | bt62 | bt63 => exact terminalCode_effects h
  | wm64 | wm128 | wm192 | wm256 | wm320 | wm384 | wm448 | wm512 | wm576 | wm640 | wm704 | wm768 | wm832 | wm896 | wm960
  | wm1024 | wm1088 | wm1152 | wm1216 | wm1280 | wm1344 | wm1408 | wm1472 | wm1536 | wm1600 | wm1664 | wm1728 =>
    exact makeupCode_effects h
  | bm64 | bm128 | bm192 | bm256 | bm320 | bm384 | bm448 | bm512 | bm576 | bm640 | bm704 | bm768 | bm832 | bm896 | bm960
  | bm1024 | bm1088 | bm1152 | bm1216 | bm1280 | bm1344 | bm1408 | bm1472 | bm1536 | bm1600 | bm1664 | bm1728 =>
    exact makeupCode_effects h
  | xm1792 | xm1856 | xm1920 | xm1984 | xm2048 | xm2112 | xm2176 | xm2240 | xm2304 | xm2368 | xm2432 | xm2496 | xm2560 =>
    exact sharedCode_effects h
  | eol => exact eolCode_effects h
  | runRle8 n v => exact inRleMode_effects (putRepeat_effects _ _ s) h
  | runRle4 n v => exact inRleMode_effects (putNibbles_effects _ _ s) h
  | runRle24 n b => exact inRleMode_effects (runRle24_effects n b s) h
  | absRle8 n => exact inRleMode_effects (afterPayload_effects (literals8_same _ s) (literals8_further _ s)) h
  | absRle4 n => exact inRleMode_effects (afterPayload_effects (literals4_same _ s) (literals4_further _ s)) h
  | absRle24 n => exact inRleMode_effects (afterPayload_effects (literals24_same _ s) (literals24_further _ s)) h
  | rleEol => exact inRle_effects (Effect.computed (by rfl)).effects h
  | eob => exact inRle_effects (finishRle_effects rfl s) h
  | delta => exact inRle_effects (rleDelta_effects s) h
  | nop | g3Reset | g3Line | rleDecode | cmeNew | cmeExtract | cmeRgba | fxcDec | fxcEnc | icnUnpack1 | icnMono
  | icnAlpha => cases h

/-- What was found to do, a token to run on `t` or nothing but `t`, was found by changes alone. -/
def Fetched.reachedFrom (s : State) (f : Fetched) : Prop :=
  match f with
  | .instr _ t => Effects s t
  | .done t => Effects s t
  | .fault _ => True

theorem nextCode_reached (r : G3Run) (s : State) : (nextCode r s).reachedFrom s := by
  unfold nextCode
  split
  · exact .refl
  · exact raise_effects _ s
  · exact abortLine_effects s
  · exact abortLine_effects s
  · exact abortLine_effects s

theorem Fetched.reachedFrom.of_effects {s t : State} {f : Fetched} (h : f.reachedFrom t) (hs : Effects s t) :
    f.reachedFrom s := by
  cases f with
  | instr i u => exact hs.trans h
  | done u => exact hs.trans h
  | fault f => trivial

theorem fetchG3_reached {r : G3Run} {s : State} (hr : s.run = .g3 r) : (fetchG3 r s).reachedFrom s := by
  have hfill : Effects s (refill s) := (Effect.refilled s).effects
  have hrun : (refill s).run = .g3 r := by rw [refill_frame s]; exact hr
  unfold fetchG3
  split
  · exact (nextCode_reached _ _).of_effects hfill
  split
  · exact raise_effects _ s
  split
  · exact hfill.trans (raise_effects _ _)
  · exact (nextCode_reached _ _).of_effects (hfill.tail (.lineGoesOn hrun _))

theorem fetchRle_reached (s : State) : (fetchRle s).reachedFrom s := by
  unfold fetchRle
  split
  · exact finishRle_effects rfl s
  split
  · exact raise_effects _ s
  split
  · exact finishRle_effects rfl s
  · rename_i h1
    split
    · exact (fetchByte_effects h1).trans (finishRle_effects rfl _)
    · rename_i h2
      exact (fetchByte_effects h1).trans (fetchByte_effects h2)

theorem fetchToken_reached (s : State) : (fetchToken s).reachedFrom s := by
  unfold fetchToken
  split
  · exact .refl
  · exact fetchG3_reached ‹_›
  · exact fetchRle_reached s

theorem runCommand_effects {s t : State} (h : runCommand s = .next t) : Effects s t := by
  refine runTokens_keeps (P := Effects s) (fun u v hu _ hf => ?_) (fun u i v w hu _ hf he => ?_) _ .refl h
  · have hv := fetchToken_reached u
    rw [hf] at hv
    exact hu.trans hv
  · have hv := fetchToken_reached u
    rw [hf] at hv
    exact (hu.trans hv).trans (execToken_effects he)

/-! ## Every instruction -/

theorem idle_of_whenIdle {s t : State} {k : State → State} (h : whenIdle s k = .next t) : s.run = .idle :=
  (whenIdle_next.1 h).1

/-- A command answers a state only where none is in progress (93_implementation_defined.md U12). -/
theorem idle_of_exec_command {i : Instr} {s t : State} (hi : i.isCommand = true) (h : exec i s = .next t) :
    s.run = .idle := by
  unfold exec at h
  cases i, hi using Instr.command_cases with
  | nop | g3Reset | cmeNew ch | cmeExtract ch | cmeRgba | fxcDec | fxcEnc | icnUnpack1 | icnMono | icnAlpha =>
    exact idle_of_whenIdle h
  | g3Line =>
    cases hr : s.run with
    | idle => rfl
    | g3 r => rw [execG3Line, hr] at h; cases h
    | rle => rw [execG3Line, hr] at h; cases h
  | rleDecode =>
    cases hr : s.run with
    | idle => rfl
    | g3 r => rw [execRleDecode, hr] at h; cases h
    | rle => rw [execRleDecode, hr] at h; cases h

theorem resetBuffer_effects (s : State) : Effects s (resetBuffer s) :=
  .tail (Effect.emptied s).effects (.computed rfl)

theorem startLine_effects (s : State) : Effects s (startLine s) :=
  .tail (Effect.computed (t := { s with g3X := 0 }) rfl).effects (.begun Running.noConfusion _)

theorem startRle_effects (s : State) : Effects s (startRle s) :=
  .tail
    (Effect.computed
      (t := { s with fb := s.fb.fillPixels (s.imgW.toNat * s.imgH.toNat) (rleFill s), rleX := 0, rleY := 0 }) rfl).effects
    (.begun Running.noConfusion _)

theorem fxcChecked_effects {s t : State} (h : Computed s t) {f : ResultFlags} (hf : (endStatus .ok f).legal = true) :
    Effects s (fxcChecked s t f) := by
  unfold fxcChecked
  split
  · exact raise_effects _ s
  split
  · exact raise_effects _ s
  · exact .tail (Effect.computed h).effects (.halted hf t)

theorem unpackByte_effects (r k : Nat) (b : Byte) (s : State) : Effects s (unpackByte r k b s) := by
  refine forUpTo_effects (fun j t => ?_) 8 s
  split
  · exact (Effect.computed (by rfl)).effects
  · exact .refl

theorem unpackStep_effects (r k : Nat) (s : State) : Effects s (unpackStep r k s) := by
  unfold unpackStep
  split
  · exact .refl
  · exact (fetchByte_effects ‹_›).trans (unpackByte_effects r k _ _)

theorem unpackImage_effects (s : State) : Effects s (unpackImage s) :=
  forUpTo_effects (fun _ t => forUpTo_effects (unpackStep_effects _) _ t) _ s

theorem exec_command_effects {i : Instr} {s t : State} (hi : i.isCommand = true) (h : exec i s = .next t) :
    Effects s t := by
  have hidle := idle_of_exec_command hi h
  cases i, hi using Instr.command_cases with
  | nop =>
    cases (exec_nop hidle).symm.trans h
    exact (Effect.halted rfl s).effects
  | g3Reset =>
    cases (exec_g3Reset hidle).symm.trans h
    exact (resetBuffer_effects s).tail (.halted rfl _)
  | g3Line =>
    rw [exec_g3Line hidle] at h
    split at h
    · exact (startLine_effects s).trans (runCommand_effects h)
    · cases h; exact raise_effects _ s
  | rleDecode =>
    rw [exec_rleDecode hidle] at h
    split at h
    · exact (startRle_effects s).trans (runCommand_effects h)
    · cases h; exact raise_effects _ s
  | cmeNew ch =>
    cases (exec_cmeNew hidle ch).symm.trans h
    exact (Effect.derived ch s).effects.tail (.halted rfl _)
  | cmeExtract ch =>
    cases (exec_cmeExtract hidle ch).symm.trans h
    exact (Effect.computed (by rfl)).effects.tail (.halted rfl _)
  | cmeRgba =>
    cases (exec_cmeRgba hidle).symm.trans h
    exact (Effect.computed (by rfl)).effects.tail (.halted (endStatus_alpha_legal rfl _) _)
  | fxcDec =>
    cases (exec_fxcDec hidle).symm.trans h
    exact fxcChecked_effects (by rfl) rfl
  | fxcEnc =>
    cases (exec_fxcEnc hidle).symm.trans h
    exact fxcChecked_effects (by rfl) rfl
  | icnUnpack1 =>
    rw [exec_icnUnpack1 hidle] at h
    cases h
    split
    · exact raise_effects _ s
    split
    · exact raise_effects _ s
    · exact (unpackImage_effects s).tail (.halted rfl _)
  | icnMono =>
    rw [exec_icnMono hidle] at h
    cases h
    split
    · exact raise_effects _ s
    split
    · exact raise_effects _ s
    · exact (Effect.computed (by rfl)).effects.tail (.halted rfl _)
  | icnAlpha =>
    rw [exec_icnAlpha hidle] at h
    cases h
    split
    · exact raise_effects _ s
    split
    · exact raise_effects _ s
    split
    · exact (Effect.halted rfl s).effects
    · exact (Effect.computed (by rfl)).effects.tail (.halted rfl _)

/-- Every instruction is changes of the kinds of `Effect`, one after another. -/
theorem exec_effects {i : Instr} {s t : State} (h : exec i s = .next t) : Effects s t := by
  cases hi : i.isCommand with
  | false => exact execToken_effects ((execToken_eq_exec hi s).trans h)
  | true => exact exec_command_effects hi h

/-! ## What no instruction writes (10_state.md R24; 20_memory.md R62, R83) -/

/-- `t` is `s` but for what some instruction writes. -/
def HostOnlyKept (s t : State) : Prop :=
  t =
    { s with
      status := t.status, inPos := t.inPos, imgW := t.imgW, imgH := t.imgH, g3Buf := t.g3Buf, g3Bits := t.g3Bits
      g3X := t.g3X, rleX := t.rleX, rleY := t.rleY, cmeRes := t.cmeRes, cm := t.cm, fxcLo := t.fxcLo, fxcHi := t.fxcHi
      fxcRgba := t.fxcRgba, lb := t.lb, mb := t.mb, fb := t.fb, run := t.run }

theorem HostOnlyKept.trans {s t u : State} (h : HostOnlyKept s t) (k : HostOnlyKept t u) : HostOnlyKept s u := by
  unfold HostOnlyKept at *
  rw [k, h]

theorem Effect.hostOnlyKept {s t : State} (h : Effect s t) : HostOnlyKept s t := by
  cases h with
  | computed h => rw [h]; rfl
  | drew h _ => rw [h]; rfl
  | refilled => rw [refill_frame s]; rfl
  | consumed k => rfl
  | emptied => rfl
  | derived ch => rfl
  | begun h => rfl
  | lineGoesOn h r' => rfl
  | halted h => rfl

theorem Effect.furtherInStream {s t : State} (h : Effect s t) : FurtherInStream s t := by
  cases h with
  | computed h => rw [h]; exact .of_eq rfl rfl
  | drew _ further => exact further
  | refilled => exact ⟨by rw [refill_frame s], refill_inPos⟩
  | consumed k => exact .of_eq rfl rfl
  | emptied => exact .of_eq rfl rfl
  | derived ch => exact .of_eq rfl rfl
  | begun h => exact .of_eq rfl rfl
  | lineGoesOn h r' => exact .of_eq rfl rfl
  | halted h => exact .of_eq rfl rfl

/-- Settles O51: no change of the kinds of `Effect` writes what only the host writes, or moves `IN_POS` back. -/
theorem noInstructionLowersInPosOrWritesInPalOrTheTenHostOnlyRegisters :
    Obligations.NoInstructionLowersInPosOrWritesInPalOrTheTenHostOnlyRegisters := by
  intro i s t h
  have heffects := exec_effects h
  have hkept : HostOnlyKept s t := heffects.keeps (fun _ _ he hk => hk.trans he.hostOnlyKept) rfl
  have hfurther : FurtherInStream s t :=
    heffects.keeps (fun _ _ he hk => hk.trans he.furtherInStream) (.of_eq rfl rfl)
  refine ⟨?_, ?_, ?_, ?_, ?_, ?_, ?_, ?_, ?_, ?_, ?_, ?_, ?_, ?_, ?_, ?_, hfurther.2⟩ <;> rw [hkept]

end Sys2Proof.Machine
end

section
/-! SUPPORT. What one step can be: the external reset, an access of the host, or the changes of an instruction; and the
invariants of the state that every step keeps (10_state.md R23, R29, R32, R37). -/

namespace Sys2Proof.Machine

/-! ## Accesses of the host (10_state.md R35; 20_memory.md R60 to R63) -/

theorem hostAccess_wr (off : Nat) (v : Word) (s : State) :
    hostAccess (.wr off v) s =
      if csrExists off = false then .fault (.noSuchRegister off)
      else if off = 0 then fetchCommand v s
      else .done (csrWriteAt s off v) := rfl

theorem hostAccess_rd (off : Nat) (s : State) :
    hostAccess (.rd off) s =
      if csrExists off = false then .fault (.noSuchRegister off)
      else .done { s with hostData := csrReadAt s off } := rfl

theorem hostAccess_load {sp : Space} (h : sp ≠ .pal) (a : Nat) (b : Byte) (s : State) :
    hostAccess (.load sp a b) s =
      if a < spaceSize s.cfg sp then .done (s.withMem sp ((s.memOf sp).write a b)) else .fault (.noSuchAddress sp a) := by
  cases sp with
  | pal => exact absurd rfl h
  | input | lb | mb | fb => rfl

theorem hostAccess_read {sp : Space} (hin : sp ≠ .input) (hpal : sp ≠ .pal) (a : Nat) (s : State) :
    hostAccess (.read sp a) s =
      if a < spaceSize s.cfg sp then .done { s with hostData := (s.byteAt sp a).setWidth 32 }
      else .fault (.noSuchAddress sp a) := by
  cases sp with
  | input => exact absurd rfl hin
  | pal => exact absurd rfl hpal
  | lb | mb | fb => rfl

/-- `t` is `s` but for what the host writes, what it has read and what it has still to do. -/
def HostAccessed (s t : State) : Prop :=
  t =
    { s with
      inPos := t.inPos, inLen := t.inLen, imgW := t.imgW, imgH := t.imgH, palCount := t.palCount, g3Width := t.g3Width
      g3Ctrl := t.g3Ctrl, rleCtrl := t.rleCtrl, cmeArg := t.cmeArg, fxcMode := t.fxcMode, fxcLo := t.fxcLo
      fxcHi := t.fxcHi, fxcRgba := t.fxcRgba, icnMw := t.icnMw, icnMh := t.icnMh, icnCtrl := t.icnCtrl
      inMem := t.inMem, pal := t.pal, lb := t.lb, mb := t.mb, fb := t.fb, host := t.host, hostData := t.hostData }

theorem HostAccessed.trans {s t u : State} (h : HostAccessed s t) (k : HostAccessed t u) : HostAccessed s u := by
  unfold HostAccessed at *
  rw [k, h]

/-- A register write touches the sixteen read/write registers alone (10_state.md R35). -/
theorem csrWriteAt_frame (s : State) (off : Nat) (v : Word) :
    csrWriteAt s off v =
      { s with
        inPos := (csrWriteAt s off v).inPos, inLen := (csrWriteAt s off v).inLen, imgW := (csrWriteAt s off v).imgW
        imgH := (csrWriteAt s off v).imgH, palCount := (csrWriteAt s off v).palCount
        g3Width := (csrWriteAt s off v).g3Width, g3Ctrl := (csrWriteAt s off v).g3Ctrl
        rleCtrl := (csrWriteAt s off v).rleCtrl, cmeArg := (csrWriteAt s off v).cmeArg
        fxcMode := (csrWriteAt s off v).fxcMode, fxcLo := (csrWriteAt s off v).fxcLo
        fxcHi := (csrWriteAt s off v).fxcHi, fxcRgba := (csrWriteAt s off v).fxcRgba
        icnMw := (csrWriteAt s off v).icnMw, icnMh := (csrWriteAt s off v).icnMh
        icnCtrl := (csrWriteAt s off v).icnCtrl } := by
  unfold csrWriteAt
  split
  · rename_i c _; cases c <;> rfl
  · rfl

theorem csrWriteAt_accessed (s : State) (off : Nat) (v : Word) : HostAccessed s (csrWriteAt s off v) := by
  unfold HostAccessed
  rw [csrWriteAt_frame s off v]

theorem withMem_accessed (s : State) (sp : Space) (m : Memory) : HostAccessed s (s.withMem sp m) := by cases sp <;> rfl

/-- What the host's access on `s` comes to: a command to run, what the host touches, or an illegal command word
(60_exceptions.md R522). -/
def Fetched.ofAccess (s : State) (f : Fetched) : Prop :=
  match f with
  | .instr _ t => t = s
  | .done t => HostAccessed s t ∨ t = raise .errIllegalCmd s
  | .fault _ => True

theorem fetchCommand_ofAccess (w : Word) (s : State) : (fetchCommand w s).ofAccess s := by
  unfold fetchCommand
  split
  · rfl
  · exact .inr rfl

theorem hostAccess_ofAccess {a : HostAction} (h : a ≠ .reset) (s : State) : (hostAccess a s).ofAccess s := by
  cases a with
  | wr off v =>
    rw [hostAccess_wr]
    split
    · trivial
    split
    · exact fetchCommand_ofAccess v s
    · exact .inl (csrWriteAt_accessed s off v)
  | rd off =>
    rw [hostAccess_rd]
    split
    · trivial
    · exact .inl rfl
  | load sp x b =>
    by_cases hpal : sp = .pal
    · subst hpal; trivial
    rw [hostAccess_load hpal]
    split
    · exact .inl (withMem_accessed s sp _)
    · trivial
  | loadPal i r g b => exact .inl rfl
  | read sp x =>
    by_cases hin : sp = .input
    · subst hin; trivial
    by_cases hpal : sp = .pal
    · subst hpal; trivial
    rw [hostAccess_read hin hpal]
    split
    · exact .inl rfl
    · trivial
  | reset => exact absurd rfl h

/-! ## One step -/

/-- With no command in progress, the next access of the host is taken. -/
theorem fetch_host {s : State} {a : HostAction} {rest : List HostAction} (hr : s.run = .idle) (hh : s.host = a :: rest) :
    fetch s = hostAccess a { s with host := rest } := by
  unfold fetch
  split
  · rename_i h
    obtain rfl : a = .reset := by simpa [hh] using h
    rw [hh]; rfl
  · rw [hr, hh]

/-- The external reset came, or a step is what the host touches and then changes that instructions make. -/
theorem step_cases {s t : State} (h : step s = .next t) :
    (∃ u, t = externalReset u) ∨ ∃ u, HostAccessed s u ∧ Effects u t := by
  by_cases hreset : s.host.head? = some .reset
  · obtain ⟨rest, hh⟩ : ∃ rest, s.host = .reset :: rest := List.head?_eq_some_iff.1 hreset
    cases (step_reset hh).symm.trans h
    exact .inl ⟨_, rfl⟩
  refine .inr ?_
  by_cases hidle : s.run = .idle
  · cases hh : s.host with
    | nil =>
      cases (step_idle hidle hh).symm.trans h
      exact ⟨s, rfl, .refl⟩
    | cons a rest =>
      have ha : a ≠ .reset := fun e => hreset (by rw [hh, e]; rfl)
      have hfound := hostAccess_ofAccess ha { s with host := rest }
      rw [← fetch_host hidle hh] at hfound
      obtain hf | ⟨i, u, hf, he⟩ := step_next h
      · rw [hf] at hfound
        obtain htouched | rfl := hfound
        · exact ⟨t, HostAccessed.trans (t := { s with host := rest }) rfl htouched, .refl⟩
        · exact ⟨{ s with host := rest }, rfl, raise_effects _ _⟩
      · rw [hf] at hfound
        cases hfound
        exact ⟨{ s with host := rest }, rfl, exec_effects he⟩
  · have hfound := fetchToken_reached s
    rw [← fetch_running hidle hreset] at hfound
    obtain hf | ⟨i, u, hf, he⟩ := step_next h
    · rw [hf] at hfound
      exact ⟨s, rfl, hfound⟩
    · rw [hf] at hfound
      exact ⟨s, rfl, Relation.ReflTransGen.trans hfound (exec_effects he)⟩

/-- What a reset establishes and what the host's accesses and every change of an instruction keep, every step keeps. -/
theorem step_keeps {P : State → Prop} (hreset : ∀ s, P (externalReset s)) (hhost : ∀ s t, HostAccessed s t → P s → P t)
    (heffect : ∀ s t, Effect s t → P s → P t) {s t : State} (hs : P s) (h : step s = .next t) : P t := by
  obtain ⟨u, rfl⟩ | ⟨u, hu, he⟩ := step_cases h
  · exact hreset u
  · exact he.keeps heffect (hhost s u hu hs)

/-! ## The bit buffer (10_state.md R29) -/

theorem bufferLegal_congr {s t : State} (hbuf : t.g3Buf = s.g3Buf) (hbits : t.g3Bits = s.g3Bits) :
    t.bufferLegal ↔ s.bufferLegal := by
  unfold State.bufferLegal
  rw [hbuf, hbits]

theorem bufferLegal_of_empty {s : State} (hbuf : s.g3Buf = 0) (hbits : s.g3Bits = 0) : s.bufferLegal := by
  unfold State.bufferLegal
  rw [hbuf, hbits]
  exact ⟨by decide, fun _ _ => BitVec.getLsbD_zero⟩

/-- Only a refill, a consume and a drop touch the bit buffer. -/
theorem Effect.bufferLegal {s t : State} (h : Effect s t) (hs : s.bufferLegal) : t.bufferLegal := by
  cases h with
  | computed h => exact (bufferLegal_congr (by rw [h]) (by rw [h])).2 hs
  | drew h _ => exact (bufferLegal_congr (by rw [h]) (by rw [h])).2 hs
  | refilled => exact refill_bufferLegal hs
  | consumed k => exact consume_bufferLegal hs
  | emptied => exact bufferLegal_of_empty rfl rfl
  | derived | begun | lineGoesOn | halted => exact hs

/-- Settles O54: a reset empties the buffer, and the host has no write of it. -/
theorem stepKeepsTheBitBufferLegal : Obligations.StepKeepsTheBitBufferLegal := fun _ _ =>
  step_keeps (P := fun s => s.bufferLegal) (fun _ => bufferLegal_of_empty rfl rfl)
    (fun _ _ h => (bufferLegal_congr (by rw [h]) (by rw [h])).2) (fun _ _ => Effect.bufferLegal)

/-! ## The channel records (10_state.md R32; 44_color_mask.md R451) -/

/-- The record of a mask holds that mask. -/
theorem colorMask_mask (m : Word) : (colorMask m).mask = m := by
  unfold colorMask
  split
  · exact Eq.symm ‹m = 0›
  · rfl

theorem channelsLegal_congr {s t : State} (h : t.cm = s.cm) : t.channelsLegal ↔ s.channelsLegal := by
  unfold State.channelsLegal
  rw [h]

/-- `CME.NEW` derives one record and leaves the other three. -/
theorem channelsLegal_set {s : State} (hs : s.channelsLegal) (ch : Channel) (m : Word) :
    State.channelsLegal { s with cm := s.cm.set ch (colorMask m) } := by
  obtain ⟨hr, hg, hb, ha⟩ := hs
  have hnew : colorMask m = colorMask (colorMask m).mask := by rw [colorMask_mask]
  cases ch with
  | r => exact ⟨hnew, hg, hb, ha⟩
  | g => exact ⟨hr, hnew, hb, ha⟩
  | b => exact ⟨hr, hg, hnew, ha⟩
  | a => exact ⟨hr, hg, hb, hnew⟩

/-- Only `CME.NEW` touches the channel records. -/
theorem Effect.channelsLegal {s t : State} (h : Effect s t) (hs : s.channelsLegal) : t.channelsLegal := by
  cases h with
  | computed h => exact (channelsLegal_congr (by rw [h])).2 hs
  | drew h _ => exact (channelsLegal_congr (by rw [h])).2 hs
  | refilled => exact (channelsLegal_congr (by rw [refill_frame s])).2 hs
  | derived ch => exact channelsLegal_set hs ch s.cmeArg
  | consumed | emptied | begun | lineGoesOn | halted => exact hs

/-- Settles O55: a reset makes every channel absent, and the host has no write of the records. -/
theorem stepKeepsTheChannelRecordsDerived : Obligations.StepKeepsTheChannelRecordsDerived := fun _ _ =>
  step_keeps (P := fun s => s.channelsLegal) (fun _ => reset_channelsLegal)
    (fun _ _ h => (channelsLegal_congr (by rw [h])).2) (fun _ _ => Effect.channelsLegal)

/-! ## `PDU_STATUS` (10_state.md R23, R37; 60_exceptions.md R521) -/

theorem statusLegal_iff {s : State} :
    s.statusLegal = true ↔ s.status.busy = decide (s.run ≠ .idle) ∧ s.status.legal = true := by
  simp only [State.statusLegal, Bool.and_eq_true, beq_iff_eq]

theorem statusLegal_congr {s t : State} (hstatus : t.status = s.status) (hrun : t.run = s.run) :
    t.statusLegal = true ↔ s.statusLegal = true := by
  rw [statusLegal_iff, statusLegal_iff, hstatus, hrun]

/-- `BUSY` rises when a command starts and falls when it ends, with a result that the rules produce. -/
theorem Effect.statusLegal {s t : State} (h : Effect s t) (hs : s.statusLegal = true) : t.statusLegal = true := by
  obtain ⟨hbusy, hlegal⟩ := statusLegal_iff.1 hs
  cases h with
  | computed h => exact (statusLegal_congr (by rw [h]) (by rw [h])).2 hs
  | drew h _ => exact (statusLegal_congr (by rw [h]) (by rw [h])).2 hs
  | refilled => exact (statusLegal_congr (by rw [refill_frame s]) (by rw [refill_frame s])).2 hs
  | consumed | emptied | derived => exact hs
  | begun hr => exact statusLegal_iff.2 ⟨(decide_eq_true hr).symm, hlegal⟩
  | lineGoesOn hr r' => exact statusLegal_iff.2 ⟨by rw [hbusy, hr]; rfl, hlegal⟩
  | halted hresult => exact statusLegal_iff.2 ⟨rfl, hresult⟩

/-- Settles O56: a reset clears `PDU_STATUS`, and the host has no write of it. -/
theorem stepKeepsTheStatusLegal : Obligations.StepKeepsTheStatusLegal := fun _ _ =>
  step_keeps (P := fun s => s.statusLegal = true) (fun _ => rfl)
    (fun _ _ h => (statusLegal_congr (by rw [h]) (by rw [h])).2) (fun _ _ => Effect.statusLegal)

end Sys2Proof.Machine
end

section
/-! SUPPORT. The control registers as the host reads and writes them (10_state.md R22, R23, R32, R35, R36), and the two
steps that a claim about dispatch names (30_encoding.md R91; 43_rle.md R424). -/

namespace Sys2Proof.Machine

/-! ## The map (10_state.md R35) -/

/-- A register that the host writes as well as reads, `PDU_CMD` aside (10_state.md R35). -/
def Csr.writable : Csr → Bool
  | .inPos | .inLen | .imgW | .imgH | .palCount | .g3Width | .g3Ctrl | .rleCtrl | .cmeArg | .fxcMode | .fxcLo | .fxcHi
  | .fxcRgba | .icnMw | .icnMh | .icnCtrl => true
  | _ => false

theorem mem_csrMap {off : Nat} {c : Csr} (h : csrAt off = some c) : (off, c) ∈ csrMap := by
  obtain ⟨l₁, l₂, hl, -⟩ := List.lookup_eq_some_iff.1 h
  rw [hl]
  simp

/-- No register stands at two offsets. -/
theorem csrAt_injective {a b : Nat} {c : Csr} (ha : csrAt a = some c) (hb : csrAt b = some c) : a = b := by
  have hnodup : (csrMap.map Prod.snd).Nodup := by decide
  exact congrArg Prod.fst (List.inj_on_of_nodup_map hnodup (mem_csrMap ha) (mem_csrMap hb) rfl)

/-- The offsets of the sixteen read/write registers. -/
def writableOffsets : List Nat :=
  [0x008, 0x00C, 0x010, 0x014, 0x018, 0x020, 0x024, 0x040, 0x060, 0x0A0, 0x0A4, 0x0A8, 0x0AC, 0x0C0, 0x0C4, 0x0C8]

theorem writable_iff_mem {off : Nat} {c : Csr} (h : csrAt off = some c) : c.writable = true ↔ off ∈ writableOffsets := by
  have hmap : ∀ p ∈ csrMap, p.2.writable = true ↔ p.1 ∈ writableOffsets := by decide
  exact hmap _ (mem_csrMap h)

theorem not_mem_writableOffsets {off : Nat} (h : csrAt off = none) : off ∉ writableOffsets := by
  have hall : ∀ o ∈ writableOffsets, csrAt o ≠ none := by decide
  exact fun hmem => hall off hmem h

/-! ## Writes (10_state.md R35, R36) -/

theorem csrWrite_of_not_writable {c : Csr} (h : c.writable = false) (s : State) (v : Word) : csrWrite s v c = s := by
  cases c with
  | pduCmd | pduStatus | g3Buf | g3Bits | g3X | rleX | rleY | cmeRes | cmeMask | cmeDeriv => rfl
  | _ => cases h

theorem csrRead_csrWrite_same {c : Csr} (h : c.writable = true) (s : State) (v : Word) : csrRead (csrWrite s v c) c = v := by
  cases c with
  | pduCmd | pduStatus | g3Buf | g3Bits | g3X | rleX | rleY | cmeRes | cmeMask | cmeDeriv => cases h
  | _ => rfl

theorem csrRead_csrWrite_other {c d : Csr} (h : d ≠ c) (s : State) (v : Word) :
    csrRead (csrWrite s v c) d = csrRead s d := by
  cases c <;> cases d <;> first | rfl | exact absurd rfl h

/-- A write of an offset is read back at that offset if its register is read/write, and no other read changes. -/
theorem csrReadAt_csrWriteAt (s : State) (off o : Nat) (v : Word) :
    csrReadAt (csrWriteAt s off v) o = if o = off ∧ off ∈ writableOffsets then v else csrReadAt s o := by
  cases hoff : csrAt off with
  | none => rw [if_neg fun h => not_mem_writableOffsets hoff h.2, csrWriteAt, hoff]
  | some c =>
    have hwrite : csrWriteAt s off v = csrWrite s v c := by rw [csrWriteAt, hoff]
    have hmem := writable_iff_mem hoff
    rw [hwrite]
    split
    · rename_i h
      obtain ⟨rfl, hin⟩ := h
      rw [csrReadAt, hoff]
      exact csrRead_csrWrite_same (hmem.2 hin) s v
    · rename_i h
      by_cases ho : o = off
      · have hread : ¬c.writable = true := fun hw => h ⟨ho, hmem.1 hw⟩
        rw [csrWrite_of_not_writable (by simpa using hread)]
      · rw [csrReadAt, csrReadAt]
        cases hd : csrAt o with
        | none => rfl
        | some d => exact csrRead_csrWrite_other (fun e => ho (csrAt_injective (e ▸ hd) hoff)) s v

theorem csrExists_of_aligned {off : Nat} (hlt : off < 256) (hal : off % 4 = 0) : csrExists off = true := by
  simp [csrExists, hlt, hal]

/-- A register write other than a command. -/
theorem step_wr {s : State} {rest : List HostAction} {off : Nat} {v : Word} (hr : s.run = .idle)
    (hh : s.host = .wr off v :: rest) (hlt : off < 256) (hal : off % 4 = 0) (h0 : off ≠ 0) :
    step s = .next (csrWriteAt { s with host := rest } off v) := by
  rw [step, fetch_host hr hh, hostAccess_wr, csrExists_of_aligned hlt hal, if_neg Bool.noConfusion, if_neg h0]

/-- Settles O13: the step is `csrWriteAt`, whose reads and whose frame are known. -/
theorem hostWriteReachesExactlyItsRegister : Obligations.HostWriteReachesExactlyItsRegister := by
  unfold Obligations.HostWriteReachesExactlyItsRegister
  intro s rest off v hr hh hlt hal h0
  have hframe := csrWriteAt_frame { s with host := rest } off v
  refine ⟨_, step_wr hr hh hlt hal h0, fun o => csrReadAt_csrWriteAt _ off o v, ?_⟩
  refine ⟨?_, ?_, ?_, ?_, ?_, ?_, ?_, ?_, ?_, ?_, ?_, ?_⟩ <;> rw [hframe]

/-! ## Reads (10_state.md R22, R23, R32, R36) -/

theorem csrReadAt_of_none {off : Nat} (h : csrAt off = none) (s : State) : csrReadAt s off = 0 := by rw [csrReadAt, h]

/-- The offsets above `ICN_CTRL` are reserved. -/
theorem csrAt_above {off : Nat} (h : 0x0CC ≤ off) : csrAt off = none := by
  have hmap : ∀ p ∈ csrMap, p.1 < 0x0CC := by decide
  refine List.lookup_eq_none_iff.2 fun p hp => bne_iff_ne.2 fun e => ?_
  have := hmap p hp
  omega

/-- The reserved offsets between the registers. -/
def reservedOffsets : List Nat :=
  [0x01C, 0x034, 0x038, 0x03C, 0x04C, 0x050, 0x054, 0x058, 0x05C, 0x068, 0x06C, 0x090, 0x094, 0x098, 0x09C, 0x0B0, 0x0B4,
    0x0B8, 0x0BC]

theorem csrAt_reserved : ∀ off ∈ reservedOffsets, csrAt off = none := by decide

theorem csrReadAt_pduCmd_or_reserved {s : State} {off : Nat} (h : off ∈ 0x000 :: reservedOffsets ∨ 0x0CC ≤ off) :
    csrReadAt s off = 0 := by
  obtain h | h := h
  · obtain rfl | h := List.mem_cons.1 h
    · rfl
    · exact csrReadAt_of_none (csrAt_reserved off h) s
  · exact csrReadAt_of_none (csrAt_above h) s

/-- A bit of a word of which the number is known. -/
theorem getLsbD_ofNat_of_div {n k : Nat} {b : Bool} (hk : k < 32) (h : n / 2 ^ k % 2 = b.toNat) :
    (BitVec.ofNat 32 n).getLsbD k = b := by
  rw [BitVec.getLsbD_ofNat, decide_eq_true hk, Bool.true_and, Nat.testBit_eq_decide_div_mod_eq, h]
  cases b <;> rfl

/-- A field of a word of which the number is known. -/
theorem extractLsb'_ofNat_toNat {n k len : Nat} (hn : n < 2 ^ 32) :
    ((BitVec.ofNat 32 n).extractLsb' k len).toNat = n / 2 ^ k % 2 ^ len := by
  rw [BitVec.extractLsb'_toNat, BitVec.toNat_ofNat, Nat.mod_eq_of_lt hn, Nat.shiftRight_eq_div_pow]

theorem ResultCode.number_lt (c : ResultCode) : c.number < 16 := by cases c <;> decide

/-- The fields of `PDU_STATUS` at their bits (10_state.md R23). -/
theorem Status.word_fields (t : Status) :
    t.word.getLsbD 0 = t.busy ∧ t.word.getLsbD 1 = t.done ∧ (t.word.extractLsb' 4 4).toNat = t.code.number ∧
      t.word.getLsbD 8 = t.flags.hasAlpha ∧ t.word.getLsbD 9 = t.flags.g3Early ∧ t.word.getLsbD 10 = t.flags.g3Bad ∧
      t.word.getLsbD 11 = t.flags.icnNoop ∧ t.word.extractLsb' 2 2 = 0 ∧ t.word.extractLsb' 12 20 = 0 := by
  have hcode := t.code.number_lt
  have hbusy := t.busy.toNat_le
  have hdone := t.done.toNat_le
  have halpha := t.flags.hasAlpha.toNat_le
  have hearly := t.flags.g3Early.toNat_le
  have hbad := t.flags.g3Bad.toNat_le
  have hnoop := t.flags.icnNoop.toNat_le
  unfold Status.word
  refine ⟨getLsbD_ofNat_of_div (by omega) ?_, getLsbD_ofNat_of_div (by omega) ?_, ?_, getLsbD_ofNat_of_div (by omega) ?_,
    getLsbD_ofNat_of_div (by omega) ?_, getLsbD_ofNat_of_div (by omega) ?_, getLsbD_ofNat_of_div (by omega) ?_,
    BitVec.eq_of_toNat_eq ?_, BitVec.eq_of_toNat_eq ?_⟩
  · omega
  · omega
  · rw [extractLsb'_ofNat_toNat (by omega)]; omega
  · omega
  · omega
  · omega
  · omega
  · rw [extractLsb'_ofNat_toNat (by omega), BitVec.ofNat_eq_ofNat, BitVec.toNat_zero]; omega
  · rw [extractLsb'_ofNat_toNat (by omega), BitVec.ofNat_eq_ofNat, BitVec.toNat_zero]; omega

theorem step_rd {s : State} {rest : List HostAction} {off : Nat} (hr : s.run = .idle) (hh : s.host = .rd off :: rest)
    (hlt : off < 256) (hal : off % 4 = 0) : step s = .next { s with host := rest, hostData := csrReadAt s off } := by
  rw [step, fetch_host hr hh, hostAccess_rd, csrExists_of_aligned hlt hal, if_neg Bool.noConfusion]
  rfl

/-- The two registers of a channel record stand at the places its number gives (10_state.md R32). -/
theorem csrReadAt_channel (s : State) (c : Channel) :
    csrReadAt s (0x070 + 4 * c.number) = (s.cm.get c).mask ∧
      csrReadAt s (0x080 + 4 * c.number) = derivWord (s.cm.get c) := by
  cases c <;> exact ⟨rfl, rfl⟩

/-- Settles O14: the plain registers by the map, `PDU_STATUS` by its fields, the records by their channel. -/
theorem hostReadReturnsTheRegisterAndChangesNothing : Obligations.HostReadReturnsTheRegisterAndChangesNothing := by
  unfold Obligations.HostReadReturnsTheRegisterAndChangesNothing
  intro s rest off hr hh hlt hal
  exact ⟨step_rd hr hh hlt hal, csrReadAt_pduCmd_or_reserved, s.status.word_fields, ⟨rfl, rfl, rfl, rfl, rfl⟩,
    ⟨rfl, rfl, rfl, rfl, rfl⟩, ⟨rfl, rfl, rfl⟩, ⟨rfl, rfl⟩, ⟨rfl, rfl, rfl, rfl⟩, ⟨rfl, rfl, rfl⟩, csrReadAt_channel s⟩

/-! ## The two steps -/

/-- Settles O9: the access at offset 0 is the command that the word decodes to. -/
theorem stepRunsTheCommandWritten : Obligations.StepRunsTheCommandWritten := by
  unfold Obligations.StepRunsTheCommandWritten
  intro s rest w i hr hh hi
  have hfetch : fetch s = .instr i { s with host := rest } := by
    rw [fetch_host hr hh, hostAccess_wr, csrExists_of_aligned (by decide) rfl, if_neg Bool.noConfusion, if_pos rfl,
      fetchCommand, hi]
  rw [step, hfetch]

/-- The end of a decode, with its `LEAVE` by its bit (43_rle.md R424, R436). -/
theorem finishRle_eq (c : ResultCode) (s : State) :
    finishRle c s = { s with run := .idle, status := endStatus c { hasAlpha := !s.rleCtrl.getLsbD 3 } } := rfl

theorem fetchRle_rowsDone {s : State} (h : s.imgH.toNat ≤ s.rleY.toNat) :
    fetchRle s = .done (finishRle .rowsDone s) := if_pos h

/-- The head of the next command, with two bytes left. -/
theorem fetchRle_head {s : State} {m : RleMode} (hy : s.rleY.toNat < s.imgH.toNat) (hm : s.rleMode = some m)
    (h : s.inPos.toNat + 2 ≤ s.inLen.toNat) :
    fetchRle s =
      .instr (decodeRle m (s.byteAt .input s.inPos.toNat) (s.byteAt .input (s.inPos.toNat + 1)))
        { s with inPos := s.inPos + 2 } := by
  have hsucc : (s.inPos + 1).toNat = s.inPos.toNat + 1 := inPos_succ (by omega)
  have hfirst := fetchByte_of_lt (s := s) (by omega)
  have hsecond := fetchByte_of_lt (s := { s with inPos := s.inPos + 1 }) (by simp only [hsucc]; omega)
  have hadd : s.inPos + 1 + 1 = s.inPos + 2 := by rw [BitVec.add_assoc]; rfl
  rw [fetchRle, if_neg (by omega), hm]
  simp only [hfirst, hsecond, hsucc, hadd]
  rfl

/-- The end of the stream, with fewer than two bytes left. -/
theorem fetchRle_truncated {s : State} {m : RleMode} (hy : s.rleY.toNat < s.imgH.toNat) (hm : s.rleMode = some m)
    (hle : s.inPos.toNat ≤ s.inLen.toNat) (h : s.inLen.toNat < s.inPos.toNat + 2) :
    fetchRle s = .done (finishRle .truncated { s with inPos := s.inLen }) := by
  rw [fetchRle, if_neg (by omega), hm]
  by_cases hend : s.inPos = s.inLen
  · have hnone : fetchByte s = none := fetchByte_eq_none.2 hend
    have hs : { s with inPos := s.inLen } = s := congrArg (fun p => { s with inPos := p }) hend.symm
    simp only [hnone, hs]
  · have hlt : s.inPos.toNat < s.inLen.toNat := Nat.lt_of_le_of_ne hle fun e => hend (BitVec.eq_of_toNat_eq e)
    have hlast : s.inPos + 1 = s.inLen := BitVec.eq_of_toNat_eq (by rw [inPos_succ hlt]; omega)
    have hnone : fetchByte { s with inPos := s.inLen } = none := fetchByte_eq_none.2 rfl
    simp only [fetchByte_of_lt hlt, hlast, hnone]

/-- `MODE` by its number, where the PDU has the mode (log 6). -/
theorem rleMode_of_number {s : State} {m : RleMode} {n : Nat}
    (hmem : (m, n) ∈ [(RleMode.rle8, 0), (RleMode.rle4, 1), (RleMode.rle24, 2)]) (hn : s.rleCtrl.toNat % 4 = n)
    (h24 : m = .rle24 → s.cfg.hasRle24 = true) : s.rleMode = some m := by
  cases m with
  | rle8 => exact rleMode_eq_rle8.2 (by simp at hmem; omega)
  | rle4 => exact rleMode_eq_rle4.2 (by simp at hmem; omega)
  | rle24 => exact rleMode_eq_rle24.2 ⟨by simp at hmem; omega, h24 rfl⟩

/-- Settles O11: a step of a decode is `fetchRle`, in its three cases. -/
theorem stepRunsTheNextRleCommandOrEndsTheDecode : Obligations.StepRunsTheNextRleCommandOrEndsTheDecode := by
  unfold Obligations.StepRunsTheNextRleCommandOrEndsTheDecode
  intro s hr hreset
  have hfetch : fetch s = fetchRle s := by rw [fetch_running (by rw [hr]; exact Running.noConfusion) hreset, fetchToken, hr]
  refine ⟨fun hy => ?_, fun m n hmem hn h24 hy => ?_⟩
  · rw [step, hfetch, fetchRle_rowsDone hy, finishRle_eq]
  · have hm := rleMode_of_number hmem hn h24
    refine ⟨fun h => ?_, fun hle h => ?_⟩
    · rw [step, hfetch, fetchRle_head hy hm h]
    · rw [step, hfetch, fetchRle_truncated hy hm hle h, finishRle_eq]

end Sys2Proof.Machine
end

section
/-! SUPPORT. The bits not yet decoded, through a refill and a consume (10_state.md R24; 40_g3_huffman.md R132 to R134). -/

namespace Sys2Proof.Machine

/-! ## Bits of a word and of a byte -/

/-- The valid bits of a buffer, the next one first (40_g3_huffman.md R134). -/
def bufferBits (buf : Word) (n : Nat) : List Bool := (List.range n).map (peek buf)

/-- The bits of the bytes of `IN` at the addresses from `p` to before `e`. -/
def streamBitsFrom (s : State) (p e : Nat) : List Bool :=
  (List.range (e - p)).flatMap fun k => byteBits (s.byteAt .input (p + k))

theorem pendingBits_eq (s : State) :
    s.pendingBits = bufferBits s.g3Buf s.g3Bits.toNat ++ streamBitsFrom s s.inPos.toNat s.inLen.toNat := rfl

/-- The bits of a byte as the stream has them. -/
theorem byteBits_eq (b : Byte) : byteBits b = (List.range 8).map fun k => b.getLsbD (7 - k) := rfl

theorem streamBitsFrom_cons (s : State) {p e : Nat} (h : p < e) :
    streamBitsFrom s p e = byteBits (s.byteAt .input p) ++ streamBitsFrom s (p + 1) e := by
  have hlen : e - p = e - (p + 1) + 1 := by omega
  rw [streamBitsFrom, hlen, List.range_succ_eq_map, List.flatMap_cons, List.flatMap_map]
  simp only [streamBitsFrom, Nat.add_zero, Nat.succ_eq_add_one, Nat.add_assoc, Nat.add_comm 1]

/-! ## A refill -/

/-- A byte put below the valid bits of a legal buffer follows them (R132). -/
theorem bufferBits_refilled {buf : Word} {n : Nat} (h : n ≤ 24) (hlow : ∀ k, k < 32 - n → buf.getLsbD k = false) (b : Byte) :
    bufferBits (buf ||| (b.setWidth 32 <<< (24 - n))) (n + 8) = bufferBits buf n ++ byteBits b := by
  rw [bufferBits, List.range_add, List.map_append, List.map_map, bufferBits, byteBits_eq]
  congr 1
  · refine List.map_congr_left fun k hk => ?_
    have hkn := List.mem_range.1 hk
    have habove : b.getLsbD (31 - k - (24 - n)) = false := BitVec.getLsbD_of_ge _ _ (by omega)
    simp [peek, habove]
  · refine List.map_congr_left fun k hk => ?_
    have hk8 := List.mem_range.1 hk
    have hindex : 31 - (n + k) - (24 - n) = 7 - k := by omega
    have hlow' : buf.getLsbD (31 - (n + k)) = false := hlow _ (by omega)
    have hnot : ¬31 - (n + k) < 24 - n := by omega
    have hword : 31 - (n + k) < 32 := by omega
    have hbyte : 7 - k < 32 := by omega
    simp only [peek, Function.comp_apply, BitVec.getLsbD_or, BitVec.getLsbD_shiftLeft, BitVec.getLsbD_setWidth, hlow', hindex,
      hnot, hword, hbyte, decide_true, decide_false, Bool.not_false, Bool.true_and, Bool.false_or]

/-- One turn of a refill keeps the invariant of the buffer (10_state.md R29). -/
theorem refillByte_bufferLegal {s : State} (h : s.bufferLegal) : (refillByte s).bufferLegal := by
  obtain ⟨hle, hlow⟩ := h
  obtain ⟨e, -⟩ | ⟨hbits, -, e⟩ := refillByte_cases s
  · rw [e]; exact ⟨hle, hlow⟩
  · rw [e]
    refine ⟨by simp only [bits_add_eight hbits]; omega, fun k hk => ?_⟩
    simp only [bits_add_eight hbits] at hk
    have hbelow : k < 24 - s.g3Bits.toNat := by omega
    simp [hlow k (by omega), hbelow]

/-- One turn of a refill moves the next eight bits of the stream into the buffer, or nothing. -/
theorem refillByte_pendingBits {s : State} (h : s.bufferLegal) : (refillByte s).pendingBits = s.pendingBits := by
  obtain ⟨e, -⟩ | ⟨hbits, hpos, e⟩ := refillByte_cases s
  · rw [e]
  · rw [e, pendingBits_eq, pendingBits_eq, streamBitsFrom_cons s hpos, ← List.append_assoc, ← bufferBits_refilled hbits h.2]
    simp only [bits_add_eight hbits, inPos_succ hpos]
    rfl

theorem refill_pendingBits {s : State} (h : s.bufferLegal) : (refill s).pendingBits = s.pendingBits := by
  have hkeeps : ∀ t : State, t.bufferLegal ∧ t.pendingBits = s.pendingBits →
      (refillByte t).bufferLegal ∧ (refillByte t).pendingBits = s.pendingBits :=
    fun t ⟨hl, hp⟩ => ⟨refillByte_bufferLegal hl, (refillByte_pendingBits hl).trans hp⟩
  exact (refill_keeps hkeeps ⟨h, rfl⟩).2

/-! ## A consume -/

/-- Shifting `k` bits out of a buffer drops the first `k` of its valid bits (R133). -/
theorem bufferBits_consumed (buf : Word) {n : Nat} (hn : n ≤ 32) (k : Nat) :
    bufferBits (buf <<< k) (n - k) = (bufferBits buf n).drop k := by
  refine List.ext_getElem (by simp [bufferBits]) fun i hi _ => ?_
  have hin : i < n - k := by simpa [bufferBits] using hi
  have hindex : 31 - i - k = 31 - (k + i) := by omega
  have hnot : ¬31 - i < k := by omega
  have hword : 31 - i < 32 := by omega
  simp only [bufferBits, List.getElem_drop, List.getElem_map, List.getElem_range, peek, BitVec.getLsbD_shiftLeft, hindex, hnot,
    hword, decide_true, decide_false, Bool.not_false, Bool.true_and]

theorem consume_pendingBits {s : State} (h : s.bufferLegal) {k : Nat} (hk : k ≤ s.g3Bits.toNat) :
    (consume k s).pendingBits = s.pendingBits.drop k := by
  have hlen : k ≤ (bufferBits s.g3Buf s.g3Bits.toNat).length := by simpa [bufferBits] using hk
  rw [pendingBits_eq, pendingBits_eq, List.drop_append_of_le_length hlen, ← bufferBits_consumed _ h.1]
  simp only [consume_g3Buf, consume_g3Bits, bits_sub]
  rfl

/-- Settles O18: the buffer's bits and the stream's are one list, of which a refill moves the border. -/
theorem bufferPrimitivesKeepTheBitStream : Obligations.BufferPrimitivesKeepTheBitStream := fun _ hlegal _ =>
  ⟨refill_pendingBits hlegal, fun _ hk => consume_pendingBits hlegal hk⟩

end Sys2Proof.Machine
end

section
/-! SUPPORT. What a step answers: it stops on an illegal access of the host and nowhere else, and with a command in progress it
is one turn of that command (20_memory.md R60, R61, R80; log 1, 13). -/

namespace Sys2Proof.Machine

/-! ## With a command in progress -/

theorem instr_isCommand_false_of_execToken {i : Instr} {s t : State} (h : execToken i s = .next t) : i.isCommand = false := by
  cases hi : i.isCommand with
  | false => rfl
  | true => cases i, hi using Instr.command_cases <;> cases h

/-- With a command in progress and no reset to come, a step is one turn of the command. -/
theorem step_of_turn {s t : State} (hr : s.run ≠ .idle) (hh : s.host.head? ≠ some .reset) (h : Turn s t) :
    step s = .next t := by
  rw [step, fetch_running hr hh]
  obtain hd | ⟨i, u, hi, he⟩ := h
  · rw [hd]
  · rw [hi]
    exact (execToken_eq_exec (instr_isCommand_false_of_execToken he) u).symm.trans he

/-- No token that a decode finds is refused there, whatever the state of its stream (43_rle.md R424). -/
theorem rle_has_turn {s : State} (h : s.run = .rle) : ∃ t, Turn s t := by
  have hfetch : fetchToken s = fetchRle s := by rw [fetchToken, h]
  unfold Turn
  rw [hfetch, fetchRle]
  split
  · exact ⟨_, .inl rfl⟩
  split
  · exact ⟨_, .inl rfl⟩
  rename_i m hm
  cases h1 : fetchByte s with
  | none => exact ⟨_, .inl rfl⟩
  | some p =>
    obtain ⟨a, s1⟩ := p
    have g1 := fetchByte_goesOn h1
    cases h2 : fetchByte s1 with
    | none => exact ⟨finishRle .truncated s1, .inl (by simp [h2])⟩
    | some q =>
      obtain ⟨b, s2⟩ := q
      have g := g1.trans (fetchByte_goesOn h2)
      obtain ⟨t, ht, -⟩ := execToken_decodeRle (g.run.trans h) (g.mode.trans hm) a b
      exact ⟨t, .inr ⟨_, s2, by simp [h2], ht⟩⟩

theorem running_has_turn {s : State} (h : s.run ≠ .idle) : ∃ t, Turn s t := by
  cases hr : s.run with
  | idle => exact absurd hr h
  | g3 r => exact (g3_turn ⟨r, hr⟩).imp fun _ ht => ht.1
  | rle => exact rle_has_turn hr

/-! ## With no command in progress -/

/-- Every command answers a next state where none is in progress. -/
theorem exec_command_answers {i : Instr} {s : State} (hi : i.isCommand = true) (hr : s.run = .idle) :
    ∃ t, exec i s = .next t := by
  cases h : commandParamsOk i s with
  | false => exact ⟨_, exec_of_illegal_params hi hr h⟩
  | true => exact (exec_of_legal_params hi hr h).imp fun _ ht => ht.1

theorem plainCommands_are_commands : ∀ p ∈ plainCommands, p.2.isCommand = true := by decide

/-- A command word decodes to a command (30_encoding.md R91, R92). -/
theorem decodeCommand_isCommand {w : Word} {i : Instr} (h : decodeCommand w = .ok i) : i.isCommand = true := by
  unfold decodeCommand at h
  split at h
  · cases h
  split at h
  · cases h; rfl
  split at h
  · cases h; rfl
  split at h
  · cases h
  split at h
  · rename_i hlook
    cases h
    obtain ⟨l₁, l₂, hl, -⟩ := List.lookup_eq_some_iff.1 hlook
    exact plainCommands_are_commands (opField w, i) (by rw [hl]; simp)
  · cases h

theorem fetchCommand_answers (w : Word) (s : State) :
    (∃ t, fetchCommand w s = .done t) ∨ ∃ i, i.isCommand = true ∧ fetchCommand w s = .instr i s := by
  unfold fetchCommand
  split
  · exact .inr ⟨_, decodeCommand_isCommand ‹_›, rfl⟩
  · exact .inl ⟨_, rfl⟩

theorem csrExists_eq (off : Nat) : csrExists off = (decide (off < 256) && decide (off % 4 = 0)) := rfl

/-- A legal access is made, or it is a command that is to run on the same state. -/
theorem hostAccess_of_legal {a : HostAction} {s : State} (h : a.legal s.cfg = true) :
    (∃ t, hostAccess a s = .done t) ∨ ∃ i, i.isCommand = true ∧ hostAccess a s = .instr i s := by
  cases a with
  | wr off v =>
    rw [HostAction.legal, ← csrExists_eq] at h
    rw [hostAccess_wr, if_neg (by simp [h])]
    split
    · exact fetchCommand_answers v s
    · exact .inl ⟨_, rfl⟩
  | rd off =>
    rw [HostAction.legal, ← csrExists_eq] at h
    exact .inl ⟨_, by rw [hostAccess_rd, if_neg (by simp [h])]⟩
  | load sp x b =>
    simp only [HostAction.legal, Bool.and_eq_true, decide_eq_true_eq] at h
    exact .inl ⟨_, by rw [hostAccess_load h.1, if_pos h.2]⟩
  | loadPal i r g b => exact .inl ⟨_, rfl⟩
  | read sp x =>
    simp only [HostAction.legal, Bool.and_eq_true, decide_eq_true_eq] at h
    obtain ⟨⟨hin, hpal⟩, hx⟩ := h
    exact .inl ⟨_, by rw [hostAccess_read hin hpal, if_pos hx]⟩
  | reset => exact .inl ⟨_, rfl⟩

/-- An illegal access is a fault (log 13). -/
theorem hostAccess_of_illegal {a : HostAction} {s : State} (h : a.legal s.cfg = false) : ∃ f, hostAccess a s = .fault f := by
  cases a with
  | wr off v =>
    rw [HostAction.legal, ← csrExists_eq] at h
    exact ⟨_, by rw [hostAccess_wr, if_pos h]⟩
  | rd off =>
    rw [HostAction.legal, ← csrExists_eq] at h
    exact ⟨_, by rw [hostAccess_rd, if_pos h]⟩
  | load sp x b =>
    by_cases hpal : sp = .pal
    · subst hpal; exact ⟨_, rfl⟩
    have hx : ¬x < spaceSize s.cfg sp := by simpa [HostAction.legal, hpal] using h
    exact ⟨_, by rw [hostAccess_load hpal, if_neg hx]⟩
  | read sp x =>
    by_cases hin : sp = .input
    · subst hin; exact ⟨_, rfl⟩
    by_cases hpal : sp = .pal
    · subst hpal; exact ⟨_, rfl⟩
    have hx : ¬x < spaceSize s.cfg sp := by simpa [HostAction.legal, hin, hpal] using h
    exact ⟨_, by rw [hostAccess_read hin hpal, if_neg hx]⟩
  | loadPal | reset => cases h

theorem step_of_legal_access {s : State} {a : HostAction} {rest : List HostAction} (hr : s.run = .idle)
    (hh : s.host = a :: rest) (h : a.legal s.cfg = true) : ∃ t, step s = .next t := by
  rw [step, fetch_host hr hh]
  obtain ⟨t, ht⟩ | ⟨i, hi, ht⟩ := hostAccess_of_legal (s := { s with host := rest }) h
  · exact ⟨t, by rw [ht]⟩
  · rw [ht]; exact exec_command_answers hi hr

theorem step_of_illegal_access {s : State} {a : HostAction} {rest : List HostAction} (hr : s.run = .idle)
    (hh : s.host = a :: rest) (h : a.legal s.cfg = false) : ∃ f, step s = .fault f := by
  rw [step, fetch_host hr hh]
  obtain ⟨f, hf⟩ := hostAccess_of_illegal (s := { s with host := rest }) h
  exact ⟨f, by rw [hf]⟩

/-- What stops a step (log 13). -/
def State.illegalAccessNext (s : State) : Prop :=
  s.run = .idle ∧ ∃ a rest, s.host = a :: rest ∧ a.legal s.cfg = false

theorem step_answers {s : State} (h : ¬s.illegalAccessNext) : ∃ t, step s = .next t := by
  by_cases hr : s.run = .idle
  · cases hh : s.host with
    | nil => exact ⟨s, step_idle hr hh⟩
    | cons a rest =>
      have hlegal : a.legal s.cfg = true := by
        cases hl : a.legal s.cfg with
        | true => rfl
        | false => exact absurd ⟨hr, a, rest, hh, hl⟩ h
      exact step_of_legal_access hr hh hlegal
  · by_cases hreset : s.host.head? = some .reset
    · obtain ⟨rest, hh⟩ : ∃ rest, s.host = .reset :: rest := List.head?_eq_some_iff.1 hreset
      exact ⟨_, step_reset hh⟩
    · exact (running_has_turn hr).imp fun _ => step_of_turn hr hreset

/-- Settles O52: an illegal access faults; in every other state there is an access, a command or a turn to answer with. -/
theorem stepFaultsExactlyOnIllegalHostAccesses : Obligations.StepFaultsExactlyOnIllegalHostAccesses := by
  unfold Obligations.StepFaultsExactlyOnIllegalHostAccesses
  intro s
  by_cases h : s.illegalAccessNext
  · have hcause := h
    obtain ⟨hr, a, rest, hh, hl⟩ := h
    obtain ⟨f, hf⟩ := step_of_illegal_access hr hh hl
    exact ⟨fun r e => by (rw [hf] at e; cases e), fun _ => hcause, fun _ => ⟨f, hf⟩⟩
  · obtain ⟨t, ht⟩ := step_answers h
    exact ⟨fun r e => by (rw [ht] at e; cases e), fun ⟨f, hf⟩ => by (rw [ht] at hf; cases hf), fun hc => absurd hc h⟩

/-! ## A command as the run of its tokens (20_memory.md R80; log 1) -/

theorem run_zero (s : State) : Host.Core.run core 0 s = .next s := rfl

theorem coreRun_succ_of_step {M : Host.Core} {s t : M.State} (h : M.step s = .next t) (k : Nat) :
    M.run (k + 1) s = M.run k t := by
  rw [Host.Core.run, h]

theorem run_succ_of_step {s t : State} (h : step s = .next t) (k : Nat) :
    Host.Core.run core (k + 1) s = Host.Core.run core k t :=
  coreRun_succ_of_step (M := core) h k

/-- The machine reaches `o` in some number of steps, a command being in progress before the last of them. -/
def RunsTo (s : State) (o : Host.Outcome State Fault Refusal) : Prop :=
  ∃ n, Host.Core.run core n s = o ∧ ∀ k, k < n → ∃ u : State, Host.Core.run core k s = .next u ∧ u.run ≠ .idle

theorem RunsTo.of_step {s t : State} {o : Host.Outcome State Fault Refusal} (hr : s.run ≠ .idle) (h : step s = .next t)
    (k : RunsTo t o) : RunsTo s o := by
  obtain ⟨n, hn, hbefore⟩ := k
  refine ⟨n + 1, (run_succ_of_step h n).trans hn, fun k hk => ?_⟩
  cases k with
  | zero => exact ⟨s, run_zero s, hr⟩
  | succ k => rw [run_succ_of_step h k]; exact hbefore k (by omega)

theorem turn_effects {s t : State} (h : Turn s t) : Effects s t := by
  have hfound := fetchToken_reached s
  obtain hd | ⟨i, u, hi, he⟩ := h
  · rwa [hd] at hfound
  · rw [hi] at hfound; exact Relation.ReflTransGen.trans hfound (execToken_effects he)

theorem turn_host {s t : State} (h : Turn s t) : t.host = s.host := by
  have hkept : HostOnlyKept s t := (turn_effects h).keeps (fun _ _ he hk => hk.trans he.hostOnlyKept) rfl
  rw [hkept]

/-- The turns of a command are steps of the machine, as long as no reset comes. -/
theorem runsTo_of_runTokens (n : Nat) {s t : State} (hh : s.host.head? ≠ some .reset) (h : runTokens n s = .next t) :
    RunsTo s (.next t) := by
  induction n generalizing s with
  | zero =>
    by_cases hr : s.run = .idle
    · rw [runTokens_of_idle hr] at h
      exact ⟨0, h, fun k hk => absurd hk (Nat.not_lt_zero k)⟩
    · rw [runTokens, if_neg hr] at h; cases h
  | succ n ih =>
    by_cases hr : s.run = .idle
    · rw [runTokens_of_idle hr] at h
      exact ⟨0, h, fun k hk => absurd hk (Nat.not_lt_zero k)⟩
    · obtain ⟨u, hu⟩ := running_has_turn hr
      rw [runTokens_succ_of_turn hr hu] at h
      exact .of_step hr (step_of_turn hr hh hu) (ih (by rwa [turn_host hu]) h)

/-- Settles O59: both commands end, so their runs of turns are runs of steps. -/
theorem atomicCommandIsTheRunOfItsTokens : Obligations.AtomicCommandIsTheRunOfItsTokens := by
  unfold Obligations.AtomicCommandIsTheRunOfItsTokens
  intro s hr hh
  refine ⟨fun hp => ?_, fun hp => ?_⟩
  · obtain ⟨t, ht, -⟩ := runCommand_startLine_ends s
    rw [exec_g3Line hr, if_pos hp, ht]
    exact runsTo_of_runTokens _ hh ht
  · obtain ⟨-, hm, -, -, -, -, hstream⟩ := (rleParamsOk_iff s).1 hp
    obtain ⟨t, ht, -⟩ := runCommand_startRle_ends hm ((streamOk_iff s).1 hstream).1
    rw [exec_rleDecode hr, if_pos hp, ht]
    exact runsTo_of_runTokens _ hh ht

end Sys2Proof.Machine
end

section
/-! SUPPORT. Drawing at the cursor of the RLE engine, and the stream bytes that a run's literals take (43_rle.md R423 to R434):
every run of pixels is `putPixels`, of which the place, the bytes and the cursor are known. -/

namespace Sys2Proof.Machine

/-! ## Loops -/

theorem forUpTo_succ_left {α : Type} (n : Nat) (f : Nat → α → α) (x : α) :
    forUpTo (n + 1) f x = forUpTo n (fun k => f (k + 1)) (f 0 x) := by
  induction n with
  | zero => rfl
  | succ n ih => exact congrArg (f (n + 1)) ih

/-! ## Pixels put one after another (R423) -/

/-- `put` of `px 0`, …, `px (n-1)`. -/
def putPixels (n : Nat) (px : Nat → Pixel) (s : State) : State := forUpTo n (fun k t => put (px k) t) s

theorem putPixels_succ (n : Nat) (px : Nat → Pixel) (s : State) :
    putPixels (n + 1) px s = put (px n) (putPixels n px s) := rfl

theorem putPixels_succ_left (n : Nat) (px : Nat → Pixel) (s : State) :
    putPixels (n + 1) px s = putPixels n (fun k => px (k + 1)) (put (px 0) s) := forUpTo_succ_left n _ s

/-- Pixels put touch `FB` and the column cursor alone. -/
theorem putPixels_frame (n : Nat) (px : Nat → Pixel) (s : State) :
    putPixels n px s = { s with fb := (putPixels n px s).fb, rleX := (putPixels n px s).rleX } :=
  forUpTo_keeps (fun t : State => t = { s with fb := t.fb, rleX := t.rleX }) (fun k t => put (px k) t) n s
    (fun _ _ _ ht => by rw [ht]; rfl) rfl

/-- The column cursor stops at `IMG_W`. -/
theorem putPixels_rleX (n : Nat) (px : Nat → Pixel) (s : State) :
    (putPixels n px s).rleX =
      if n = 0 then s.rleX else BitVec.ofNat 32 (min (s.rleX.toNat + n) s.imgW.toNat) := by
  induction n with
  | zero => rfl
  | succ n ih =>
    have himg : (putPixels n px s).imgW = s.imgW := by rw [putPixels_frame]
    have hw := s.imgW.isLt
    rw [putPixels_succ, put_rleX, himg, ih, if_neg (Nat.succ_ne_zero n)]
    congr 1
    split
    · subst n; rfl
    · rw [BitVec.toNat_ofNat, Nat.mod_eq_of_lt (by omega)]; omega

/-- Inside the frame the cursor of a run is where its pixels have brought it. -/
theorem putPixels_rleX_lt_iff (n : Nat) (px : Nat → Pixel) (s : State) :
    (putPixels n px s).rleX.toNat < s.imgW.toNat ↔ s.rleX.toNat + n < s.imgW.toNat := by
  have hw := s.imgW.isLt
  rw [putPixels_rleX]
  split
  · subst n; rfl
  · rw [BitVec.toNat_ofNat, Nat.mod_eq_of_lt (by omega)]; omega

theorem putPixels_cursorAddr {n : Nat} {px : Nat → Pixel} {s : State} (h : s.rleX.toNat + n < s.imgW.toNat) :
    (putPixels n px s).cursorAddr = s.cursorAddr + 4 * n := by
  have hx : (putPixels n px s).rleX.toNat = s.rleX.toNat + n := by
    have hw := s.imgW.isLt
    rw [putPixels_rleX]
    split
    · subst n; rfl
    · rw [BitVec.toNat_ofNat, Nat.mod_eq_of_lt (by omega)]; omega
  rw [State.cursorAddr, hx, putPixels_frame]
  simp only [State.cursorAddr]
  omega

theorem byteAt_fb (s : State) (a : Nat) :
    s.byteAt .fb a = (s.fb.read a).getD (Config.unwrittenByte .fb a s.resets) := rfl

/-- One pixel put changes its four bytes, if it is inside the frame. -/
theorem byteAt_put (p : Pixel) (s : State) (a : Nat) :
    (put p s).byteAt .fb a =
      if (s.rleX.toNat < s.imgW.toNat ∧ s.rleY.toNat < s.imgH.toNat) ∧ s.cursorAddr ≤ a ∧ a < s.cursorAddr + 4 then
        p.bytes.getD (a - s.cursorAddr) 0
      else s.byteAt .fb a := by
  rw [byteAt_fb, put_fb, pixelAddr_cursor]
  by_cases hin : s.rleX.toNat < s.imgW.toNat ∧ s.rleY.toNat < s.imgH.toNat
  · rw [if_pos hin, Memory.read_writePixel]
    by_cases ha : s.cursorAddr ≤ a ∧ a < s.cursorAddr + 4
    · have hlen : a - s.cursorAddr < p.bytes.length := by simp only [Pixel.bytes, List.length_cons, List.length_nil]; omega
      rw [if_pos ha, if_pos ⟨hin, ha⟩, List.getD_eq_getElem?_getD, List.getElem?_eq_getElem hlen]
      rfl
    · rw [if_neg ha, if_neg fun h => ha h.2]; rfl
  · rw [if_neg hin, if_neg fun h => hin h.1]; rfl

/-- What `FB` reads after a run of pixels. -/
theorem byteAt_putPixels (n : Nat) (px : Nat → Pixel) (s : State) (a : Nat) :
    (putPixels n px s).byteAt .fb a = s.drawn n px a := by
  induction n with
  | zero => rw [State.drawn, if_neg (by omega)]; rfl
  | succ n ih =>
    have hsame : (putPixels n px s).imgW = s.imgW ∧ (putPixels n px s).imgH = s.imgH ∧
        (putPixels n px s).rleY = s.rleY := by rw [putPixels_frame]; exact ⟨rfl, rfl, rfl⟩
    obtain ⟨hw, hh, hy⟩ := hsame
    rw [putPixels_succ, byteAt_put, ih, hw, hh, hy]
    simp only [putPixels_rleX_lt_iff, State.drawn]
    by_cases hin : s.rleX.toNat + n < s.imgW.toNat
    · rw [putPixels_cursorAddr hin, Nat.min_eq_left (by omega : n ≤ _), Nat.min_eq_left (by omega : n + 1 ≤ _)]
      by_cases hlast : s.cursorAddr + 4 * n ≤ a ∧ a < s.cursorAddr + 4 * n + 4
      · have hdiv : (a - s.cursorAddr) / 4 = n := by omega
        have hmod : a - (s.cursorAddr + 4 * n) = (a - s.cursorAddr) % 4 := by omega
        by_cases hrow : s.rleY.toNat < s.imgH.toNat
        · rw [if_pos ⟨⟨hin, hrow⟩, hlast⟩, if_pos ⟨hrow, by omega, by omega⟩, hdiv, hmod]
        · rw [if_neg fun h => hrow h.1.2, if_neg fun h => hrow h.1, if_neg fun h => hrow h.1]
      · rw [if_neg fun h => hlast h.2]
        have hiff : (s.cursorAddr ≤ a ∧ a < s.cursorAddr + 4 * (n + 1)) ↔
            (s.cursorAddr ≤ a ∧ a < s.cursorAddr + 4 * n) := by omega
        simp only [hiff]
    · rw [if_neg fun h => hin h.1.1, Nat.min_eq_right (by omega), Nat.min_eq_right (by omega)]

theorem drawn_congr {s : State} {n : Nat} {px px' : Nat → Pixel} (h : ∀ k, k < n → px k = px' k) (a : Nat) :
    s.drawn n px a = s.drawn n px' a := by
  unfold State.drawn
  split
  · rw [h _ (by omega)]
  · rfl

/-! ## The stream bytes from the cursor on (20_memory.md R65) -/

/-- How many bytes `Fetch()` gives before it gives none. -/
def bytesToEnd (s : State) : Nat := (s.inLen - s.inPos).toNat

/-- The byte that `Fetch()` gives after `k` others. -/
def streamByte (s : State) (k : Nat) : Byte := s.byteAt .input (s.inPos + BitVec.ofNat 32 k).toNat

/-- The state with `k` bytes fetched. -/
def advance (k : Nat) (s : State) : State := { s with inPos := s.inPos + BitVec.ofNat 32 k }

theorem bytesToEnd_of_le {s : State} (h : s.inPos.toNat ≤ s.inLen.toNat) :
    bytesToEnd s = s.inLen.toNat - s.inPos.toNat := BitVec.toNat_sub_of_le h

theorem streamByte_of_lt {s : State} (h : s.inPos.toNat ≤ s.inLen.toNat) {k : Nat} (hk : k < bytesToEnd s) :
    streamByte s k = s.byteAt .input (s.inPos.toNat + k) := by
  have hlen := s.inLen.isLt
  rw [bytesToEnd_of_le h] at hk
  rw [streamByte, BitVec.toNat_add, BitVec.toNat_ofNat, Nat.mod_eq_of_lt (a := k) (by omega), Nat.mod_eq_of_lt (by omega)]

theorem advance_zero (s : State) : advance 0 s = s := by simp [advance]

theorem advance_advance (j k : Nat) (s : State) : advance k (advance j s) = advance (j + k) s := by
  simp only [advance, BitVec.ofNat_add, BitVec.add_assoc]

theorem advance_inPos (k : Nat) (s : State) : (advance k s).inPos = BitVec.ofNat 32 (s.inPos.toNat + k) := by
  simp only [advance, BitVec.ofNat_add, BitVec.ofNat_toNat, BitVec.setWidth_eq]

/-- With all its bytes fetched a stream is at its end. -/
theorem advance_bytesToEnd (s : State) : advance (bytesToEnd s) s = { s with inPos := s.inLen } := by
  have h : s.inPos + (s.inLen - s.inPos) = s.inLen := by rw [BitVec.add_comm, BitVec.sub_add_cancel]
  simp only [advance, bytesToEnd, BitVec.ofNat_toNat, BitVec.setWidth_eq, h]

theorem bytesToEnd_advance {s : State} {k : Nat} (h : k ≤ bytesToEnd s) : bytesToEnd (advance k s) = bytesToEnd s - k := by
  simp only [bytesToEnd, advance] at h ⊢
  bv_omega

theorem streamByte_advance (j k : Nat) (s : State) : streamByte (advance j s) k = streamByte s (j + k) := by
  simp only [streamByte, advance, BitVec.ofNat_add, BitVec.add_assoc]; rfl

theorem fetchByte_eq (s : State) :
    fetchByte s = if bytesToEnd s = 0 then none else some (streamByte s 0, advance 1 s) := by
  have hend : bytesToEnd s = 0 ↔ s.inPos = s.inLen := by
    rw [bytesToEnd]
    constructor
    · intro h; bv_omega
    · intro h; rw [h, BitVec.sub_self]; rfl
  have hzero : streamByte s 0 = s.byteAt .input s.inPos.toNat := by simp [streamByte]
  rw [hzero]
  simp only [fetchByte, hend]
  rfl

theorem fetchByte_advance {s : State} {j : Nat} (h : j < bytesToEnd s) :
    fetchByte (advance j s) = some (streamByte s j, advance (j + 1) s) := by
  rw [fetchByte_eq, bytesToEnd_advance (by omega), if_neg (by omega), streamByte_advance, advance_advance]
  rfl

theorem fetchByte_advance_end {s : State} {j : Nat} (h : bytesToEnd s = j) : fetchByte (advance j s) = none := by
  rw [fetchByte_eq, bytesToEnd_advance (by omega), if_pos (by omega)]

theorem fetchByte_first {s : State} (h : 0 < bytesToEnd s) : fetchByte s = some (streamByte s 0, advance 1 s) := by
  rw [fetchByte_eq, if_neg (by omega)]

theorem fetchByte_end {s : State} (h : bytesToEnd s = 0) : fetchByte s = none := by
  rw [fetchByte_eq, if_pos h]

/-! ## Drawing and fetching together -/

theorem palette_put (p : Pixel) (s : State) : palette (put p s) = palette s := rfl

theorem palette_advance (k : Nat) (s : State) : palette (advance k s) = palette s := rfl

theorem bytesToEnd_put (p : Pixel) (s : State) : bytesToEnd (put p s) = bytesToEnd s := rfl

theorem streamByte_put (p : Pixel) (s : State) (k : Nat) : streamByte (put p s) k = streamByte s k := rfl

theorem advance_put (p : Pixel) (k : Nat) (s : State) : advance k (put p s) = put p (advance k s) := rfl

/-! ## Encoded runs (R425 to R427) -/

/-- The index of the `k`-th of the pixels two to a byte, high nibble first (R426, R432). -/
def nibble (v : Byte) (k : Nat) : Byte := if k % 2 = 0 then highNibble v else lowNibble v

theorem nibble_eq (v : Byte) (k : Nat) :
    nibble v k = BitVec.ofNat 8 (if k % 2 = 0 then v.toNat / 16 else v.toNat % 16) := by
  have hhigh : v.toNat >>> 4 = v.toNat / 16 := Nat.shiftRight_eq_div_pow v.toNat 4
  have hlow : v.toNat &&& 15 = v.toNat % 16 := Nat.and_two_pow_sub_one_eq_mod v.toNat 4
  have hv := v.isLt
  rw [nibble]
  split
  · refine BitVec.eq_of_toNat_eq ?_
    rw [highNibble, BitVec.toNat_ushiftRight, BitVec.toNat_ofNat, hhigh]
    omega
  · refine BitVec.eq_of_toNat_eq ?_
    rw [lowNibble, BitVec.toNat_and, BitVec.toNat_ofNat, show (0x0F : Byte).toNat = 15 from rfl, hlow]
    omega

theorem putNibbles_eq (n : Nat) (v : Byte) (s : State) :
    putNibbles n v s = putPixels n (fun k => palette s (nibble v k)) s := by
  induction n with
  | zero => rfl
  | succ n ih =>
    have hturn : putNibbles (n + 1) v s = put (palette (putNibbles n v s) (nibble v n)) (putNibbles n v s) := rfl
    have hpal : palette (putPixels n (fun k => palette s (nibble v k)) s) = palette s := by rw [putPixels_frame]; rfl
    rw [hturn, ih, hpal, putPixels_succ]

/-- `RUN` in RLE24 draws its pixels with its triplet whole, and nothing with it cut (R427). -/
theorem runRle24_eq (n b : Byte) (s : State) :
    runRle24 n b s =
      if 2 ≤ bytesToEnd s then
        putPixels n.toNat (fun _ => rgbPixel b (streamByte s 0) (streamByte s 1)) (advance 2 s)
      else finishRle .truncated (advance (bytesToEnd s) s) := by
  unfold runRle24
  obtain h | h | h : bytesToEnd s = 0 ∨ bytesToEnd s = 1 ∨ 2 ≤ bytesToEnd s := by omega
  · simp only [fetchByte_end h, h, advance_zero]; rfl
  · simp only [fetchByte_first (s := s) (by omega), fetchByte_advance_end h, h]; rfl
  · simp only [fetchByte_first (s := s) (by omega), fetchByte_advance (s := s) (j := 1) (by omega), if_pos h]; rfl

/-! ## Literals (R431 to R433) -/

/-- The pixels of the literals of each mode. -/
def literalPixel : RleMode → State → Nat → Pixel
  | .rle8, s, k => palette s (streamByte s k)
  | .rle4, s, k => palette s (nibble (streamByte s (k / 2)) k)
  | .rle24, s, k => rgbPixel (streamByte s (3 * k)) (streamByte s (3 * k + 1)) (streamByte s (3 * k + 2))

/-- What comes of literals that `c` bytes hold: all `n` pixels with the bytes there, the first `q` with the stream cut. -/
def literalsRead (c n q : Nat) (px : Nat → Pixel) (s : State) : Payload :=
  if c ≤ bytesToEnd s then .ok (putPixels n px (advance c s))
  else .error (putPixels q px (advance (bytesToEnd s) s))

theorem literalsRead_zero (px : Nat → Pixel) (q : Nat) (s : State) : literalsRead 0 0 q px s = .ok s := by
  rw [literalsRead, if_pos (Nat.zero_le _), advance_zero]
  rfl

theorem literalsRead_put (c n q : Nat) (px : Nat → Pixel) (s : State) :
    literalsRead c n q (fun k => px (k + 1)) (put (px 0) s) = literalsRead c (n + 1) (q + 1) px s := by
  rw [literalsRead, literalsRead, putPixels_succ_left, putPixels_succ_left]
  rfl

theorem literalsRead_advance {j : Nat} {s : State} (h : j ≤ bytesToEnd s) (c n q : Nat) (px : Nat → Pixel) :
    literalsRead c n q px (advance j s) = literalsRead (j + c) n q px s := by
  have hiff : c ≤ bytesToEnd s - j ↔ j + c ≤ bytesToEnd s := by omega
  simp only [literalsRead, bytesToEnd_advance h, advance_advance, hiff, Nat.add_sub_cancel' h]

theorem literalsRead_cut {c : Nat} {s : State} (h : bytesToEnd s < c) (n q : Nat) (px : Nat → Pixel) :
    literalsRead c n q px s = .error (putPixels q px (advance (bytesToEnd s) s)) := if_neg (Nat.not_le.2 h)

theorem literals8_eq (n : Nat) (s : State) :
    literals8 n s = literalsRead n n (bytesToEnd s) (literalPixel .rle8 s) s := by
  induction n generalizing s with
  | zero => exact (literalsRead_zero _ _ s).symm
  | succ n ih =>
    rw [literals8, fetchByte_eq]
    by_cases h : bytesToEnd s = 0
    · rw [if_pos h, literalsRead_cut (by omega), h, advance_zero]; rfl
    · obtain ⟨q, hq⟩ := Nat.exists_eq_succ_of_ne_zero h
      have hfirst : literalPixel .rle8 s 0 = palette s (streamByte s 0) := rfl
      have hrest : literalPixel .rle8 (put (literalPixel .rle8 s 0) (advance 1 s)) =
          fun k => literalPixel .rle8 s (k + 1) := by
        funext k
        simp only [literalPixel, palette_put, palette_advance, streamByte_put, streamByte_advance, Nat.add_comm 1]
      have hbytes : bytesToEnd (put (literalPixel .rle8 s 0) (advance 1 s)) = q := by
        rw [bytesToEnd_put, bytesToEnd_advance (by omega)]; omega
      rw [if_neg h]
      simp only [palette_advance, ← hfirst]
      rw [ih, hrest, hbytes, literalsRead_put, literalsRead_advance (by omega), hq, Nat.add_comm 1]

theorem literals4_eq : ∀ (n : Nat) (s : State),
    literals4 n s = literalsRead ((n + 1) / 2) n (2 * bytesToEnd s) (literalPixel .rle4 s) s
  | 0, s => (literalsRead_zero _ _ s).symm
  | 1, s => by
    rw [literals4, fetchByte_eq]
    by_cases h : bytesToEnd s = 0
    · rw [if_pos h, literalsRead_cut (by omega), h, advance_zero]; rfl
    · rw [if_neg h, literalsRead, if_pos (by omega)]; rfl
  | n + 2, s => by
    rw [literals4, fetchByte_eq]
    by_cases h : bytesToEnd s = 0
    · rw [if_pos h, literalsRead_cut (by omega), h, advance_zero]; rfl
    · obtain ⟨q, hq⟩ := Nat.exists_eq_succ_of_ne_zero h
      have hfirst : literalPixel .rle4 s 0 = palette s (highNibble (streamByte s 0)) := rfl
      have hsecond : literalPixel .rle4 s 1 = palette s (lowNibble (streamByte s 0)) := rfl
      have hrest : literalPixel .rle4 (put (literalPixel .rle4 s 1) (put (literalPixel .rle4 s 0) (advance 1 s))) =
          fun k => literalPixel .rle4 s (k + 1 + 1) := by
        funext k
        have hbyte : (k + 1 + 1) / 2 = 1 + k / 2 := by omega
        have hnibble : ∀ v, nibble v (k + 1 + 1) = nibble v k := fun v => by simp only [nibble, Nat.add_assoc]; simp
        simp only [literalPixel, palette_put, palette_advance, streamByte_put, streamByte_advance, hbyte, hnibble]
      have hbytes : bytesToEnd (put (literalPixel .rle4 s 1) (put (literalPixel .rle4 s 0) (advance 1 s))) = q := by
        rw [bytesToEnd_put, bytesToEnd_put, bytesToEnd_advance (by omega)]; omega
      have hcount : 1 + (n + 1) / 2 = (n + 2 + 1) / 2 := by omega
      rw [if_neg h]
      simp only [palette_advance, ← hfirst, ← hsecond]
      rw [literals4_eq n, hrest, hbytes, literalsRead_put _ _ _ (fun k => literalPixel .rle4 s (k + 1)), literalsRead_put,
        literalsRead_advance (by omega), hq, hcount]
      rfl

theorem fetchTriplet_eq (s : State) :
    fetchTriplet s =
      if 3 ≤ bytesToEnd s then .ok ((streamByte s 0, streamByte s 1, streamByte s 2), advance 3 s)
      else .error (advance (bytesToEnd s) s) := by
  unfold fetchTriplet
  obtain h | h | h | h : bytesToEnd s = 0 ∨ bytesToEnd s = 1 ∨ bytesToEnd s = 2 ∨ 3 ≤ bytesToEnd s := by omega
  · simp only [fetchByte_end h, h, advance_zero]; rfl
  · simp only [fetchByte_first (s := s) (by omega), fetchByte_advance_end h, h]; rfl
  · simp only [fetchByte_first (s := s) (by omega), fetchByte_advance (s := s) (j := 1) (by omega), fetchByte_advance_end h, h]
    rfl
  · simp only [fetchByte_first (s := s) (by omega), fetchByte_advance (s := s) (j := 1) (by omega),
      fetchByte_advance (s := s) (j := 2) (by omega), if_pos h]

theorem literals24_eq (n : Nat) (s : State) :
    literals24 n s = literalsRead (3 * n) n (bytesToEnd s / 3) (literalPixel .rle24 s) s := by
  induction n generalizing s with
  | zero => exact (literalsRead_zero _ _ s).symm
  | succ n ih =>
    rw [literals24, fetchTriplet_eq]
    by_cases h : bytesToEnd s < 3
    · rw [if_neg (by omega), literalsRead_cut (by omega), Nat.div_eq_of_lt h]; rfl
    · obtain ⟨q, hq⟩ : ∃ q, bytesToEnd s = q + 3 := ⟨bytesToEnd s - 3, by omega⟩
      have hfirst : literalPixel .rle24 s 0 = rgbPixel (streamByte s 0) (streamByte s 1) (streamByte s 2) := rfl
      have hrest : literalPixel .rle24 (put (literalPixel .rle24 s 0) (advance 3 s)) =
          fun k => literalPixel .rle24 s (k + 1) := by
        funext k
        have h0 : 3 + 3 * k = 3 * (k + 1) := by omega
        have h1 : 3 + (3 * k + 1) = 3 * (k + 1) + 1 := by omega
        have h2 : 3 + (3 * k + 2) = 3 * (k + 1) + 2 := by omega
        simp only [literalPixel, streamByte_put, streamByte_advance, h0, h1, h2]
      have hbytes : bytesToEnd (put (literalPixel .rle24 s 0) (advance 3 s)) = q := by
        rw [bytesToEnd_put, bytesToEnd_advance (by omega)]; omega
      have hcut : q / 3 + 1 = (q + 3) / 3 := by omega
      rw [if_pos (by omega)]
      simp only [← hfirst]
      rw [ih, hrest, hbytes, literalsRead_put, literalsRead_advance (by omega), hq, hcut, Nat.mul_add, Nat.add_comm 3]

/-! ## The pad, and the end of the stream (R431 to R434) -/

theorem bytesToEnd_putPixels (n : Nat) (px : Nat → Pixel) (s : State) : bytesToEnd (putPixels n px s) = bytesToEnd s := by
  rw [putPixels_frame]; rfl

theorem advance_putPixels (n : Nat) (px : Nat → Pixel) (k : Nat) (s : State) :
    advance k (putPixels n px s) = putPixels n px (advance k s) := by
  induction n with
  | zero => rfl
  | succ n ih => rw [putPixels_succ, advance_put, ih, putPixels_succ]

theorem thenPad_literalsRead (odd : Bool) (c n q : Nat) (px : Nat → Pixel) (s : State) :
    thenPad odd (literalsRead c n q px s) = literalsRead (c + odd.toNat) n (if c ≤ bytesToEnd s then n else q) px s := by
  by_cases hc : c ≤ bytesToEnd s
  · rw [if_pos hc, literalsRead, if_pos hc, thenPad, literalsRead]
    cases odd with
    | false => rw [if_pos (by simpa using hc)]; rfl
    | true =>
      rw [padByte, if_pos rfl, fetchByte_eq, bytesToEnd_putPixels, bytesToEnd_advance hc, advance_putPixels, advance_advance]
      by_cases hpad : bytesToEnd s - c = 0
      · have hend : bytesToEnd s = c := by omega
        rw [if_pos hpad, if_neg (by simp only [Bool.toNat_true]; omega), hend]
      · rw [if_neg hpad, if_pos (by simp only [Bool.toNat_true]; omega)]; rfl
  · rw [if_neg hc, literalsRead_cut (by omega), literalsRead_cut (by omega)]
    rfl

/-- An absolute run whose literals `c` bytes hold, `q` being how many pixels the bytes that are there hold. -/
theorem afterPayload_literalsRead {odd : Bool} {c n q : Nat} {s : State} (px : Nat → Pixel) (hodd : odd = decide (c % 2 = 1))
    (hq : c ≤ bytesToEnd s ↔ n ≤ q) :
    afterPayload (thenPad odd (literalsRead c n q px s)) =
      if c + c % 2 ≤ bytesToEnd s then putPixels n px (advance (c + c % 2) s)
      else finishRle .truncated (putPixels (min n q) px (advance (bytesToEnd s) s)) := by
  have hpad : odd.toNat = c % 2 := by
    rw [hodd]
    obtain h | h := Nat.mod_two_eq_zero_or_one c <;> rw [h] <;> rfl
  have hdrawn : (if c ≤ bytesToEnd s then n else q) = min n q := by split <;> omega
  rw [thenPad_literalsRead, hpad, hdrawn, literalsRead]
  split
  · rfl
  · rfl

theorem absRle8_eq (n : Byte) (s : State) :
    absRle8 n s =
      if n.toNat + n.toNat % 2 ≤ bytesToEnd s then
        putPixels n.toNat (literalPixel .rle8 s) (advance (n.toNat + n.toNat % 2) s)
      else finishRle .truncated (putPixels (min n.toNat (bytesToEnd s)) (literalPixel .rle8 s) (advance (bytesToEnd s) s)) := by
  rw [absRle8, literals8_eq, afterPayload_literalsRead _ rfl Iff.rfl]

theorem absRle4_eq (n : Byte) (s : State) :
    absRle4 n s =
      if (n.toNat + 1) / 2 + (n.toNat + 1) / 2 % 2 ≤ bytesToEnd s then
        putPixels n.toNat (literalPixel .rle4 s) (advance ((n.toNat + 1) / 2 + (n.toNat + 1) / 2 % 2) s)
      else
        finishRle .truncated
          (putPixels (min n.toNat (2 * bytesToEnd s)) (literalPixel .rle4 s) (advance (bytesToEnd s) s)) := by
  rw [absRle4, literals4_eq, afterPayload_literalsRead _ rfl (by omega)]

theorem absRle24_eq (n : Byte) (s : State) :
    absRle24 n s =
      if 3 * n.toNat + n.toNat % 2 ≤ bytesToEnd s then
        putPixels n.toNat (literalPixel .rle24 s) (advance (3 * n.toNat + n.toNat % 2) s)
      else
        finishRle .truncated
          (putPixels (min n.toNat (bytesToEnd s / 3)) (literalPixel .rle24 s) (advance (bytesToEnd s) s)) := by
  have hodd : 3 * n.toNat % 2 = n.toNat % 2 := by omega
  rw [absRle24, literals24_eq, afterPayload_literalsRead _ (by rw [hodd]) (by omega), hodd]

/-! ## The statements on runs -/

/-- What a token that has fetched `c` bytes and drawn `n` pixels has done. -/
theorem drawn_of_putPixels {o : Host.Outcome State Fault Refusal} {s : State} {c n : Nat} {px px' : Nat → Pixel}
    (ho : o = .next (putPixels n px (advance c s))) (hn : n ≠ 0) (hpx : ∀ k, k < n → px k = px' k) :
    ∃ t, o = .next t ∧
      t =
        { s with
          inPos := BitVec.ofNat 32 (s.inPos.toNat + c)
          fb := t.fb
          rleX := BitVec.ofNat 32 (min (s.rleX.toNat + n) s.imgW.toNat) } ∧
      ∀ a, t.byteAt .fb a = s.drawn n px' a := by
  refine ⟨_, ho, ?_, fun a => ?_⟩
  · have hx := putPixels_rleX n px (advance c s)
    rw [if_neg hn] at hx
    rw [putPixels_frame, hx, ← advance_inPos]
    rfl
  · rw [byteAt_putPixels, ← drawn_congr hpx]; rfl

/-- What a token that the end of the stream has cut after `q` pixels has done (R434). -/
theorem cut_of_putPixels {o : Host.Outcome State Fault Refusal} {s : State} {q : Nat} {px px' : Nat → Pixel}
    (ho : o = .next (finishRle .truncated (putPixels q px (advance (bytesToEnd s) s)))) (hpx : ∀ k, k < q → px k = px' k) :
    ∃ t, o = .next t ∧
      t =
        { s with
          inPos := s.inLen
          fb := t.fb
          rleX := if q = 0 then s.rleX else BitVec.ofNat 32 (min (s.rleX.toNat + q) s.imgW.toNat)
          run := .idle
          status := endStatus .truncated { hasAlpha := !s.rleCtrl.getLsbD 3 } } ∧
      ∀ a, t.byteAt .fb a = s.drawn q px' a := by
  refine ⟨_, ho, ?_, fun a => ?_⟩
  · rw [finishRle_eq, putPixels_frame, putPixels_rleX, advance_bytesToEnd]
  · have hbytes : (finishRle .truncated (putPixels q px (advance (bytesToEnd s) s))).byteAt .fb a =
        (putPixels q px (advance (bytesToEnd s) s)).byteAt .fb a := rfl
    rw [hbytes, byteAt_putPixels, ← drawn_congr hpx]; rfl

theorem literalPixel_rle8 {s : State} (h : s.inPos.toNat ≤ s.inLen.toNat) {k : Nat} (hk : k < bytesToEnd s) :
    literalPixel .rle8 s k = palette s (s.byteAt .input (s.inPos.toNat + k)) := by
  rw [literalPixel, streamByte_of_lt h hk]

theorem literalPixel_rle4 {s : State} (h : s.inPos.toNat ≤ s.inLen.toNat) {k : Nat} (hk : k / 2 < bytesToEnd s) :
    literalPixel .rle4 s k =
      palette s (BitVec.ofNat 8
        (if k % 2 = 0 then (s.byteAt .input (s.inPos.toNat + k / 2)).toNat / 16
        else (s.byteAt .input (s.inPos.toNat + k / 2)).toNat % 16)) := by
  rw [literalPixel, streamByte_of_lt h hk, nibble_eq]

theorem literalPixel_rle24 {s : State} (h : s.inPos.toNat ≤ s.inLen.toNat) {k : Nat} (hk : 3 * k + 2 < bytesToEnd s) :
    literalPixel .rle24 s k =
      { r := s.byteAt .input (s.inPos.toNat + 3 * k + 2), g := s.byteAt .input (s.inPos.toNat + 3 * k + 1)
        b := s.byteAt .input (s.inPos.toNat + 3 * k), a := 255 } := by
  rw [literalPixel, streamByte_of_lt h (by omega), streamByte_of_lt h (by omega), streamByte_of_lt h hk]
  rfl

/-- Settles O30: each run is `putPixels`; the cut triplet of RLE24 ends the decode. -/
theorem rleRunsDrawTheirPixels : Obligations.RleRunsDrawTheirPixels := by
  unfold Obligations.RleRunsDrawTheirPixels
  intro s n v hr hn
  have hn' : n.toNat ≠ 0 := fun h => hn (BitVec.eq_of_toNat_eq h)
  refine ⟨fun hm => ?_, fun hm => ?_, fun hm h24 hle => ?_, fun hm h24 hle hlt => ?_⟩
  · have hx : exec (.runRle8 n v) s = .next (putPixels n.toNat (fun _ => palette s v) (advance 0 s)) := by
      rw [advance_zero]; exact inRleMode_next.2 ⟨hr, rleMode_eq_rle8.2 hm, rfl⟩
    simpa using drawn_of_putPixels hx hn' (fun _ _ => rfl)
  · have hx : exec (.runRle4 n v) s = .next (putPixels n.toNat (fun k => palette s (nibble v k)) (advance 0 s)) := by
      rw [advance_zero, ← putNibbles_eq]; exact inRleMode_next.2 ⟨hr, rleMode_eq_rle4.2 hm, rfl⟩
    simpa using drawn_of_putPixels hx hn' (fun k _ => by rw [nibble_eq])
  · have hx : exec (.runRle24 n v) s = .next (runRle24 n v s) := inRleMode_next.2 ⟨hr, rleMode_eq_rle24.2 ⟨hm, h24⟩, rfl⟩
    have hbytes : 2 ≤ bytesToEnd s := by rw [bytesToEnd_of_le (by omega)]; omega
    rw [runRle24_eq, if_pos hbytes, streamByte_of_lt (by omega) (by omega), streamByte_of_lt (by omega) (by omega)] at hx
    have hpos : BitVec.ofNat 32 (s.inPos.toNat + 2) = s.inPos + 2 := (advance_inPos 2 s).symm
    rw [← hpos]
    exact drawn_of_putPixels hx hn' (fun _ _ => rfl)
  · have hx : exec (.runRle24 n v) s = .next (runRle24 n v s) := inRleMode_next.2 ⟨hr, rleMode_eq_rle24.2 ⟨hm, h24⟩, rfl⟩
    have hbytes : ¬2 ≤ bytesToEnd s := by rw [bytesToEnd_of_le hle]; omega
    rw [hx, runRle24_eq, if_neg hbytes, advance_bytesToEnd, finishRle_eq]

/-- Settles O31: with all its bytes there, a run has drawn its literals and passed its pad. -/
theorem absoluteRunsDrawTheirLiterals : Obligations.AbsoluteRunsDrawTheirLiterals := by
  unfold Obligations.AbsoluteRunsDrawTheirLiterals
  intro s n hr hn
  refine ⟨fun hm hle => ?_, fun hm hle => ?_, fun hm h24 hle => ?_⟩
  · have hpos : s.inPos.toNat ≤ s.inLen.toNat := by omega
    have hbytes := bytesToEnd_of_le hpos
    have hx : exec (.absRle8 n) s = .next (absRle8 n s) := inRleMode_next.2 ⟨hr, rleMode_eq_rle8.2 hm, rfl⟩
    rw [absRle8_eq, if_pos (by omega)] at hx
    exact drawn_of_putPixels hx (by omega) fun k hk => literalPixel_rle8 hpos (by omega)
  · have hpos : s.inPos.toNat ≤ s.inLen.toNat := by omega
    have hbytes := bytesToEnd_of_le hpos
    have hx : exec (.absRle4 n) s = .next (absRle4 n s) := inRleMode_next.2 ⟨hr, rleMode_eq_rle4.2 hm, rfl⟩
    rw [absRle4_eq, if_pos (by omega)] at hx
    exact drawn_of_putPixels hx (by omega) fun k hk => literalPixel_rle4 hpos (by omega)
  · have hpos : s.inPos.toNat ≤ s.inLen.toNat := by omega
    have hbytes := bytesToEnd_of_le hpos
    have hx : exec (.absRle24 n) s = .next (absRle24 n s) := inRleMode_next.2 ⟨hr, rleMode_eq_rle24.2 ⟨hm, h24⟩, rfl⟩
    rw [absRle24_eq, if_pos (by omega)] at hx
    exact drawn_of_putPixels hx (by omega) fun k hk => literalPixel_rle24 hpos (by omega)

/-- Settles O32: with bytes missing, a run has drawn the literals that are whole. -/
theorem truncatedAbsoluteRunsKeepTheirLiterals : Obligations.TruncatedAbsoluteRunsKeepTheirLiterals := by
  unfold Obligations.TruncatedAbsoluteRunsKeepTheirLiterals
  intro s n hr hn hpos
  dsimp only
  have hbytes := bytesToEnd_of_le hpos
  rw [← hbytes]
  refine ⟨fun hm hlt => ?_, fun hm hlt => ?_, fun hm h24 hlt => ?_⟩
  · have hx : exec (.absRle8 n) s = .next (absRle8 n s) := inRleMode_next.2 ⟨hr, rleMode_eq_rle8.2 hm, rfl⟩
    rw [absRle8_eq, if_neg (by omega)] at hx
    exact cut_of_putPixels hx fun k hk => literalPixel_rle8 hpos (by omega)
  · have hx : exec (.absRle4 n) s = .next (absRle4 n s) := inRleMode_next.2 ⟨hr, rleMode_eq_rle4.2 hm, rfl⟩
    rw [absRle4_eq, if_neg (by omega)] at hx
    exact cut_of_putPixels hx fun k hk => literalPixel_rle4 hpos (by omega)
  · have hx : exec (.absRle24 n) s = .next (absRle24 n s) := inRleMode_next.2 ⟨hr, rleMode_eq_rle24.2 ⟨hm, h24⟩, rfl⟩
    rw [absRle24_eq, if_neg (by omega)] at hx
    exact cut_of_putPixels hx fun k hk => literalPixel_rle24 hpos (by omega)

end Sys2Proof.Machine
end

section
/-! SUPPORT. What a command writes into the memories, as single bytes at addresses of one area (20_memory.md R76), and a line
from its start to its end: what each turn of `G3.LINE` is, and how the line then stands (40_g3_huffman.md R140 to R149). -/

namespace Sys2Proof

/-! ## Codes cut short (40_g3_huffman.md R138) -/

/-- The length of the longest code of a tree. -/
def Tree.depth : Tree → Nat
  | .absent => 0
  | .leaf _ => 0
  | .node l r => max l.depth r.depth + 1

theorem walk_codeCutShort {t : Tree} {buf : Word} {bits i : Nat} (h : walk t buf bits i = .error .codeCutShort) :
    bits < i + t.depth := by
  induction t generalizing i with
  | absent => cases h
  | leaf ins => cases h
  | node l r ihl ihr =>
    rw [Tree.depth]
    rw [walk] at h
    split at h
    · omega
    · split at h
      · have := ihr h; omega
      · have := ihl h; omega

theorem treeOf_depth (c : Color) : (treeOf c).depth ≤ 13 := by
  cases c <;> decide +kernel

/-- A code is cut short only with fewer bits than the longest code word has. -/
theorem decodeG3_codeCutShort {c : Color} {start : Bool} {buf : Word} {bits : Nat}
    (h : decodeG3 c start buf bits = .error .codeCutShort) : bits < 13 := by
  unfold decodeG3 at h
  split at h
  · cases h
  · have hbits := walk_codeCutShort h
    have hdepth := treeOf_depth c
    omega

end Sys2Proof

namespace Sys2Proof.Machine

/-! ## Writes at addresses of an area (20_memory.md R76) -/

/-- The second memory is the first after writes of single bytes at addresses where `ok` holds. -/
abbrev Memory.WrittenAt (ok : Nat → Prop) : Memory → Memory → Prop :=
  Relation.ReflTransGen fun m m' => ∃ a b, ok a ∧ m' = m.write a b

section
variable {ok : Nat → Prop} {m m' : Memory}

theorem Memory.WrittenAt.wf (h : m.WrittenAt ok m') (hm : m.wf) : m'.wf := by
  induction h with
  | refl => exact hm
  | tail _ h ih =>
    obtain ⟨a, b, -, rfl⟩ := h
    exact Memory.wf_write ih a b

theorem Memory.WrittenAt.bounded {n : Nat} (h : m.WrittenAt ok m') (hok : ∀ a, ok a → a < n) (hm : ∀ c ∈ m, c.1 < n) :
    ∀ c ∈ m', c.1 < n := by
  induction h with
  | refl => exact hm
  | tail _ h ih =>
    obtain ⟨a, b, ha, rfl⟩ := h
    exact Memory.bounded_write ih (hok a ha) b

theorem Memory.WrittenAt.mono {ok' : Nat → Prop} (h : m.WrittenAt ok m') (hok : ∀ a, ok a → ok' a) : m.WrittenAt ok' m' :=
  Relation.ReflTransGen.mono (fun _ _ ⟨a, b, ha, e⟩ => ⟨a, b, hok a ha, e⟩) _ _ h

theorem Memory.writtenAt_write {a : Nat} (ha : ok a) (m : Memory) (b : Byte) : m.WrittenAt ok (m.write a b) :=
  .single ⟨a, b, ha, rfl⟩

theorem Memory.writtenAt_writeBytes (bs : List Byte) {a : Nat} (ha : ∀ x, a ≤ x → x < a + bs.length → ok x) (m : Memory) :
    m.WrittenAt ok (m.writeBytes a bs) := by
  induction bs generalizing m a with
  | nil => exact .refl
  | cons b bs ih =>
    simp only [List.length_cons] at ha
    exact (Memory.writtenAt_write (ha a (Nat.le_refl a) (by omega)) m b).trans
      (ih (fun x h h' => ha x (by omega) (by omega)) _)

theorem Memory.writtenAt_writePixel {a : Nat} (ha : ∀ x, a ≤ x → x < a + 4 → ok x) (m : Memory) (p : Pixel) :
    m.WrittenAt ok (m.writePixel a p) := Memory.writtenAt_writeBytes p.bytes ha m

/-- A loop whose every turn writes inside the area writes inside the area. -/
theorem Memory.writtenAt_forUpTo {n : Nat} {f : Nat → Memory → Memory}
    (h : ∀ k, k < n → ∀ m : Memory, m.WrittenAt ok (f k m)) (m : Memory) : m.WrittenAt ok (forUpTo n f m) :=
  forUpTo_keeps (Memory.WrittenAt ok m) f n m (fun k hk _ hm => hm.trans (h k hk _)) .refl

end

/-- A pixel inside a frame lies inside the frame's bytes. -/
theorem pixelAddr_lt {w h x r : Nat} (hx : x < w) (hr : r < h) : pixelAddr w x r + 4 ≤ 4 * w * h := by
  have hrow : (r + 1) * w ≤ h * w := Nat.mul_le_mul_right w hr
  have hadd : (r + 1) * w = r * w + w := by rw [Nat.add_mul, Nat.one_mul]
  have harea : 4 * w * h = h * w * 4 := by ring
  rw [pixelAddr, harea]
  omega

theorem destY_lt {b : Bool} {h y : Nat} (hy : y < h) : destY b h y < h := by
  unfold destY; split <;> omega

/-! ## The bytes of a run (40_g3_huffman.md R140, R141) -/

theorem Memory.read_fillLine (a n : Nat) (v : Byte) (m : Memory) (x : Nat) :
    (fillLine a n v m).read x = if a ≤ x ∧ x < a + n then some v else m.read x := by
  induction n with
  | zero => rw [if_neg (by omega)]; rfl
  | succ n ih =>
    have hturn : fillLine a (n + 1) v m = (fillLine a n v m).write (a + n) v := rfl
    rw [hturn, Memory.read_write, ih]
    by_cases hx : x = a + n
    · rw [if_pos hx, if_pos (by omega)]
    · have hiff : (a ≤ x ∧ x < a + (n + 1)) ↔ (a ≤ x ∧ x < a + n) := by omega
      rw [if_neg hx]
      simp only [hiff]

theorem byteAt_lb (s : State) (a : Nat) :
    s.byteAt .lb a = (s.lb.read a).getD (Config.unwrittenByte .lb a s.resets) := rfl

/-- The two levels are complements of each other (R141; log 5). -/
theorem pixelLevel_cases (s : State) (c : Color) :
    pixelLevel s c = s.cfg.whiteBase ∨ pixelLevel s c = ~~~s.cfg.whiteBase := by
  unfold pixelLevel
  split
  · exact .inr rfl
  · exact .inl rfl

theorem fillCount_le (s : State) (acc : Nat) : s.g3X.toNat + fillCount s acc ≤ max s.g3X.toNat s.g3Width.toNat := by
  unfold fillCount; omega

theorem endRun_g3X_toNat (c : Color) (acc : Nat) (s : State) :
    (endRun c acc s).g3X.toNat = s.g3X.toNat + fillCount s acc := by
  have hfill := fillCount_le s acc
  have hx := s.g3X.isLt
  have hw := s.g3Width.isLt
  rw [endRun_g3X, BitVec.toNat_ofNat, Nat.mod_eq_of_lt (by omega)]

theorem byteAt_endRun (c : Color) (acc : Nat) (s : State) (a : Nat) :
    (endRun c acc s).byteAt .lb a =
      if s.g3X.toNat ≤ a ∧ a < (endRun c acc s).g3X.toNat then pixelLevel s c else s.byteAt .lb a := by
  rw [byteAt_lb, endRun_lb, endRun_g3X_toNat, Memory.read_fillLine]
  split
  · rfl
  · rfl

/-! ## Further on the same line -/

/-- `t` stands further on the line of `s`: at most the stream and buffer, the line and its cursor, and what says that a
command runs have changed, and the line only from the cursor of `s` to that of `t`. -/
structure OnLine (s t : State) : Prop where
  frame : t =
    { s with
      inPos := t.inPos, g3Buf := t.g3Buf, g3Bits := t.g3Bits, g3X := t.g3X, lb := t.lb, run := t.run, status := t.status }
  further : FurtherInStream s t
  rises : s.g3X.toNat ≤ t.g3X.toNat
  insideLine : s.g3X.toNat ≤ s.g3Width.toNat → t.g3X.toNat ≤ s.g3Width.toNat
  same : ∀ a, a < s.g3X.toNat ∨ t.g3X.toNat ≤ a → t.byteAt .lb a = s.byteAt .lb a
  level : ∀ a, s.g3X.toNat ≤ a → a < t.g3X.toNat →
    t.byteAt .lb a = s.cfg.whiteBase ∨ t.byteAt .lb a = ~~~s.cfg.whiteBase
  written : s.lb.WrittenAt (fun a => a < s.g3Width.toNat) t.lb

/-- What moves bits alone stays at the cursor. -/
theorem OnLine.of_bits {s t : State}
    (h : t = { s with inPos := t.inPos, g3Buf := t.g3Buf, g3Bits := t.g3Bits, run := t.run, status := t.status })
    (further : FurtherInStream s t) : OnLine s t := by
  have hx : t.g3X = s.g3X := by rw [h]
  have hlb : t.lb = s.lb := by rw [h]
  have hbyte : ∀ a, t.byteAt .lb a = s.byteAt .lb a := by intro a; rw [h]; rfl
  exact
    { frame := by rw [hx, hlb]; exact h
      further := further
      rises := by rw [hx]
      insideLine := by rw [hx]; exact id
      same := fun a _ => hbyte a
      level := fun a h1 h2 => by rw [hx] at h2; omega
      written := by rw [hlb] }

theorem OnLine.trans {s t u : State} (h : OnLine s t) (k : OnLine t u) : OnLine s u := by
  have hw : t.g3Width = s.g3Width := by rw [h.frame]
  have hcfg : t.cfg = s.cfg := by rw [h.frame]
  exact
    { frame := by rw [k.frame, h.frame]
      further := h.further.trans k.further
      rises := Nat.le_trans h.rises k.rises
      insideLine := fun hx => hw ▸ k.insideLine (hw.symm ▸ h.insideLine hx)
      same := fun a ha => by
        have hrises := h.rises
        have krises := k.rises
        rw [k.same a (by omega), h.same a (by omega)]
      level := fun a h1 h2 => by
        by_cases ha : a < t.g3X.toNat
        · rw [k.same a (.inl ha)]; exact h.level a h1 ha
        · rw [← hcfg]; exact k.level a (by omega) h2
      written := by
        have hk := k.written
        rw [hw] at hk
        exact h.written.trans hk }

theorem onLine_refill (s : State) : OnLine s (refill s) :=
  .of_bits (by rw [refill_frame s]) (Effect.refilled s).furtherInStream

theorem onLine_consume (k : Nat) (s : State) : OnLine s (consume k s) :=
  .of_bits rfl (Effect.consumed k s).furtherInStream

theorem onLine_halt (c : ResultCode) (f : ResultFlags) (s : State) : OnLine s (halt c f s) := .of_bits rfl (.of_eq rfl rfl)

theorem onLine_setRun (r : Running) (s : State) : OnLine s { s with run := r } := .of_bits rfl (.of_eq rfl rfl)

theorem onLine_scanEol (s : State) : OnLine s (scanEol s).1 := by
  refine .of_bits ?_ ?_
  · rw [scanEol, scanEolUpTo_frame]
  · exact (scanEolUpTo_effects _ s).keeps (fun _ _ he hk => hk.trans he.furtherInStream) (.of_eq rfl rfl)

theorem onLine_endRun (c : Color) (acc : Nat) (s : State) : OnLine s (endRun c acc s) := by
  have hx := endRun_g3X_toNat c acc s
  have hfill := fillCount_le s acc
  exact
    { frame := rfl
      further := .of_eq rfl rfl
      rises := by omega
      insideLine := fun h => by omega
      same := fun a ha => by rw [byteAt_endRun, if_neg (by omega)]
      level := fun a h1 h2 => by rw [byteAt_endRun, if_pos ⟨h1, h2⟩]; exact pixelLevel_cases s c
      written := Memory.writtenAt_forUpTo
        (fun k hk m => Memory.writtenAt_write (by unfold fillCount at hk; omega) m _) s.lb }

theorem onLine_makeup (len n : Nat) (r : G3Run) (s : State) : OnLine s (makeup len n r s) :=
  (onLine_consume len s).trans (onLine_setRun _ _)

/-! ## The turns of a line (R140) -/

/-- The run that a turn goes on with: a new one begins at length 0. -/
def lineRun (r : G3Run) : G3Run := if r.midRun then r else { r with acc := 0 }

/-- The state in which a turn looks its code up. -/
def atCode (r : G3Run) (s : State) : State := { refill s with run := .g3 (lineRun r) }

theorem onLine_atCode (r : G3Run) (s : State) : OnLine s (atCode r s) := (onLine_refill s).trans (onLine_setRun _ _)

/-- What a turn of a line in run `r` comes to. -/
inductive LineTurn (s : State) (r : G3Run) : State → Prop
  /-- The line is complete. -/
  | complete (hx : s.g3Width.toNat ≤ s.g3X.toNat) : LineTurn s r (raise .ok s)
  /-- The stream ends before a code word does (R149). -/
  | cut (hx : r.midRun = true ∨ s.g3X.toNat < s.g3Width.toNat) (hbits : (atCode r s).g3Bits.toNat < 13) :
    LineTurn s r (raise .truncated (atCode r s))
  /-- An unrecognised code (R148). -/
  | abort (hx : r.midRun = true ∨ s.g3X.toNat < s.g3Width.toNat) : LineTurn s r (abortLine (atCode r s))
  /-- An EOL at line start (R143). -/
  | eolSkipped (hm : r.midRun = false) : LineTurn s r (consume 12 (atCode r s))
  /-- An EOL that ends the line early (R147). -/
  | eolEnds (h0 : s.g3X ≠ 0) (hx : s.g3X.toNat < s.g3Width.toNat) :
    LineTurn s r (halt .ok earlyFlags (consume 12 (atCode r s)))
  /-- A terminal code (R144). -/
  | endsRun (row : T4Row) : LineTurn s r (endRun r.color (satAdd (lineRun r).acc row.run) (consume row.len (atCode r s)))
  /-- A make-up code (R145, R146). -/
  | goesOn (hx : r.midRun = true ∨ s.g3X.toNat < s.g3Width.toNat) (row : T4Row) :
    LineTurn s r (makeup row.len row.run (lineRun r) (atCode r s))

theorem lineRun_midRun (r : G3Run) : (lineRun r).midRun = r.midRun := by
  unfold lineRun; split <;> rfl

theorem lineRun_color (r : G3Run) : (lineRun r).color = r.color := by
  unfold lineRun; split <;> rfl

theorem atCode_g3Bits (r : G3Run) (s : State) : (atCode r s).g3Bits = (refill s).g3Bits := by rw [atCode]

theorem atCode_inPos (r : G3Run) (s : State) : (atCode r s).inPos = (refill s).inPos := by rw [atCode]

theorem atCode_g3X (r : G3Run) (s : State) : (atCode r s).g3X = s.g3X := by
  rw [atCode, refill_frame s]

theorem raise_setRun (c : ResultCode) (r : Running) (s : State) : raise c { s with run := r } = raise c s := rfl

theorem raise_atCode (c : ResultCode) (r : G3Run) (s : State) : raise c (atCode r s) = raise c (refill s) := by
  rw [atCode, raise_setRun]

theorem turn_of_done {s t u : State} (hf : fetchToken s = .done u) (h : Turn s t) : t = u := by
  obtain h | ⟨i, v, h, -⟩ := h
  · exact (Fetched.done.inj (hf.symm.trans h)).symm
  · cases hf.symm.trans h

theorem turn_of_instr {s t u v : State} {i : Instr} (hf : fetchToken s = .instr i u) (he : execToken i u = .next v)
    (h : Turn s t) : t = v := by
  obtain h | ⟨j, w, h, hw⟩ := h
  · cases hf.symm.trans h
  · cases hf.symm.trans h
    exact Host.Outcome.next.inj (hw.symm.trans he)

/-- The loop of `G3.LINE` tests for a complete line and for the end of the stream, and then looks a code up. -/
theorem fetchG3_cases {s : State} {r : G3Run} (hr : s.run = .g3 r) :
    (s.g3Width.toNat ≤ s.g3X.toNat ∧ fetchG3 r s = .done (raise .ok s)) ∨
    ((r.midRun = true ∨ s.g3X.toNat < s.g3Width.toNat) ∧
      ((fetchG3 r s = .done (raise .truncated (atCode r s)) ∧ (atCode r s).g3Bits.toNat = 0) ∨
        fetchG3 r s = nextCode (lineRun r) (atCode r s))) := by
  have hrun : (refill s).run = .g3 r := by rw [refill_frame s]; exact hr
  unfold fetchG3
  split
  · rename_i hm
    have hlook : lineRun r = r := if_pos hm
    have hcode : atCode r s = refill s := by rw [atCode, hlook, ← hrun]
    exact .inr ⟨.inl hm, .inr (by rw [hlook, hcode])⟩
  · rename_i hm
    have hlook : lineRun r = { r with acc := 0 } := if_neg hm
    split
    · rename_i hx
      exact .inl ⟨hx, rfl⟩
    · refine .inr ⟨.inr (by omega), ?_⟩
      split
      · rename_i hbits
        exact .inl ⟨by rw [raise_atCode], by rw [atCode_g3Bits]; exact hbits⟩
      · exact .inr (by rw [atCode, hlook])

theorem nextCode_cut {s : State} {r : G3Run} (h : nextCode r s = .done (raise .truncated s)) : s.g3Bits.toNat < 13 := by
  have hbad : abortLine s ≠ raise .truncated s := by
    intro e
    have hflags : (abortLine s).status.flags.g3Bad = false := by rw [e]; rfl
    obtain e' | e' := abortLine_cases s <;> rw [e'] at hflags <;> cases hflags
  cases hd : decodeG3 r.color (!r.midRun) s.g3Buf s.g3Bits.toNat with
  | ok p => rw [nextCode, hd] at h; cases h
  | error e =>
    rw [nextCode, hd] at h
    cases e with
    | codeCutShort => exact decodeG3_codeCutShort hd
    | illegalCommand | unrecognisedCode | wrongForm => exact absurd (Fetched.done.inj h) hbad

/-- Every turn of a line is one of those of `LineTurn`. -/
theorem g3_turn_cases {s t : State} {r : G3Run} (hr : s.run = .g3 r) (h : Turn s t) : LineTurn s r t := by
  have hfetch : fetchToken s = fetchG3 r s := by rw [fetchToken, hr]
  obtain ⟨hx, hf⟩ | ⟨hx, ⟨hf, hbits⟩ | hf⟩ := fetchG3_cases hr
  · rw [turn_of_done (hfetch.trans hf) h]
    exact .complete hx
  · rw [turn_of_done (hfetch.trans hf) h]
    exact .cut hx (by omega)
  · obtain hc | hc | ⟨i, v, hc, he, hv⟩ := nextCode_cases (s := atCode r s) (r := lineRun r) rfl
    · rw [turn_of_done (hfetch.trans (hf.trans hc)) h]
      exact .cut hx (nextCode_cut hc)
    · rw [turn_of_done (hfetch.trans (hf.trans hc)) h]
      exact .abort hx
    · rw [turn_of_instr (hfetch.trans (hf.trans hc)) he h]
      rw [lineRun_midRun, lineRun_color, atCode_g3X] at hv
      obtain ⟨-, hm, rfl⟩ | ⟨row, -, -, rfl | rfl⟩ := hv
      · split
        · exact .eolSkipped hm
        · exact .eolEnds ‹_› (hx.resolve_left (by simp [hm]))
      · exact .endsRun row
      · exact .goesOn hx row

/-- How a line can end (R149, R156): the status, and the state of its cursors and buffer. -/
def LineEndsWith (st : Status) (s : State) : Prop :=
  (st = endStatus .ok {} ∧ s.g3X = s.g3Width) ∨
    (st = endStatus .ok earlyFlags ∧ 0 < s.g3X.toNat ∧ s.g3X.toNat < s.g3Width.toNat) ∨
    (st = endStatus .ok badFlags ∧ s.g3X.toNat < s.g3Width.toNat) ∨
    (st = endStatus .truncated badFlags ∧ s.g3X.toNat < s.g3Width.toNat ∧ s.inPos = s.inLen ∧ s.g3Buf = 0 ∧
      s.g3Bits = 0) ∨
    (st = endStatus .truncated {} ∧ s.g3X.toNat < s.g3Width.toNat ∧ s.inPos = s.inLen ∧ s.g3Bits.toNat < 13)

/-- The line of `s` has ended so. -/
def LineEnded (s : State) : Prop := LineEndsWith s.status s

theorem lineEnded_halt {c : ResultCode} {f : ResultFlags} {s : State} (h : LineEndsWith (endStatus c f) s) :
    LineEnded (halt c f s) := h

/-- A line in progress, or at its end. Inside a run the line is not complete. -/
def LineStands (s : State) : Prop :=
  (∃ r, s.run = .g3 r ∧ (r.midRun = true → s.g3X.toNat < s.g3Width.toNat)) ∨ s.run = .idle ∧ LineEnded s

theorem LineTurn.onLine {s t : State} {r : G3Run} (h : LineTurn s r t) : OnLine s t := by
  have hcode := onLine_atCode r s
  cases h with
  | complete => exact onLine_halt _ _ s
  | cut => exact hcode.trans (onLine_halt _ _ _)
  | abort =>
    obtain e | e := abortLine_cases (atCode r s) <;> rw [e]
    all_goals exact (hcode.trans (onLine_scanEol _)).trans (onLine_halt _ _ _)
  | eolSkipped => exact hcode.trans (onLine_consume _ _)
  | eolEnds => exact (hcode.trans (onLine_consume _ _)).trans (onLine_halt _ _ _)
  | endsRun row => exact (hcode.trans (onLine_consume _ _)).trans (onLine_endRun _ _ _)
  | goesOn hx row => exact hcode.trans (onLine_makeup _ _ _ _)

theorem abortLine_eq (s : State) :
    abortLine s = halt (if (scanEol s).2 then .ok else .truncated) badFlags (scanEol s).1 := by
  unfold abortLine
  split
  · rename_i h; rw [h]; rfl
  · rename_i h; rw [h]; rfl

/-- An aborted line ends inside the line, with the stream read to its end if no EOL was found (R148, R149). -/
theorem abortLine_ended {s : State} (hx : s.g3X.toNat < s.g3Width.toNat) (hp : s.inPos.toNat ≤ s.inLen.toNat) :
    LineEnded (abortLine s) := by
  have hscan : (scanEol s).1.g3X = s.g3X ∧ (scanEol s).1.g3Width = s.g3Width ∧ (scanEol s).1.inLen = s.inLen := by
    rw [scanEol, scanEolUpTo_frame]; exact ⟨rfl, rfl, rfl⟩
  obtain ⟨ex, ew, el⟩ := hscan
  have hinside : (scanEol s).1.g3X.toNat < (scanEol s).1.g3Width.toNat := by rw [ex, ew]; exact hx
  rw [abortLine_eq]
  refine lineEnded_halt ?_
  cases hfound : (scanEol s).2 with
  | true => exact .inr (.inr (.inl ⟨rfl, hinside⟩))
  | false =>
    obtain ⟨hbuf, hbits⟩ := scanEolUpTo_notFound hfound
    have hend : (scanEol s).1.inPos = s.inLen := scanEolUpTo_notFound_inPos hfound (by omega) hp
    exact .inr (.inr (.inr (.inl ⟨rfl, hinside, hend.trans el.symm, hbuf, hbits⟩)))

/-- With fewer bits in the buffer than a refill leaves, the stream is at its end (R132). -/
theorem atCode_inPos_of_bits {r : G3Run} {s : State} (hp : s.inPos.toNat ≤ s.inLen.toNat)
    (hbits : (atCode r s).g3Bits.toNat < 13) : (atCode r s).inPos = (atCode r s).inLen := by
  have hlen : (atCode r s).inLen = s.inLen := by rw [atCode, refill_frame s]
  rw [atCode_g3Bits] at hbits
  rw [hlen, atCode_inPos]
  exact (refill_fills hp).resolve_left (by omega)

/-- A turn leaves the line in progress, or at an end that the rules give. -/
theorem LineTurn.lineStands {s t : State} {r : G3Run} (h : LineTurn s r t) (hx : s.g3X.toNat ≤ s.g3Width.toNat)
    (hmid : r.midRun = true → s.g3X.toNat < s.g3Width.toNat) (hp : s.inPos.toNat ≤ s.inLen.toNat) : LineStands t := by
  have hcode := onLine_atCode r s
  have ew : (atCode r s).g3Width = s.g3Width := by rw [hcode.frame]
  have hinside : (r.midRun = true ∨ s.g3X.toNat < s.g3Width.toNat) → (atCode r s).g3X.toNat < (atCode r s).g3Width.toNat := by
    intro h; rw [atCode_g3X, ew]; exact h.elim hmid id
  have hpos : (atCode r s).inPos.toNat ≤ (atCode r s).inLen.toNat := by
    rw [hcode.further.1]; exact (hcode.further.2 hp).2
  cases h with
  | complete hle => exact .inr ⟨rfl, lineEnded_halt (.inl ⟨rfl, BitVec.eq_of_toNat_eq (Nat.le_antisymm hx hle)⟩)⟩
  | cut hin hbits =>
    exact .inr ⟨rfl, lineEnded_halt
      (.inr (.inr (.inr (.inr ⟨rfl, hinside hin, atCode_inPos_of_bits hp hbits, hbits⟩))))⟩
  | abort hin =>
    exact .inr ⟨by rw [abortLine_eq]; rfl, abortLine_ended (hinside hin) hpos⟩
  | eolSkipped hm => exact .inl ⟨lineRun r, rfl, fun h => by simp [lineRun_midRun, hm] at h⟩
  | eolEnds h0 hlt =>
    have hne : s.g3X.toNat ≠ 0 := fun e => h0 (BitVec.eq_of_toNat_eq e)
    have hend := hinside (.inr hlt)
    refine .inr ⟨rfl, lineEnded_halt (.inr (.inl ⟨rfl, ?_, ?_⟩))⟩
    · rw [consume_g3X, atCode_g3X]; omega
    · rw [consume_g3X, consume_g3Width]; exact hend
  | endsRun row => exact .inl ⟨_, rfl, Bool.noConfusion⟩
  | goesOn hin row =>
    refine .inl ⟨_, makeup_run _ _ _ _, fun _ => ?_⟩
    rw [makeup_g3X, makeup_g3Width]
    exact hinside hin

/-! ## The run of a command, turn by turn -/

theorem runTokens_keeps_turn {P : State → Prop} (h : ∀ s t, P s → s.run ≠ .idle → Turn s t → P t) (n : Nat) {s t : State}
    (hs : P s) (ht : runTokens n s = .next t) : P t :=
  runTokens_keeps (fun u v hu hr hf => h u v hu hr (.inl hf)) (fun u i v w hu hr hf he => h u w hu hr (.inr ⟨i, v, hf, he⟩))
    n hs ht

/-- A line from its start: what its run has kept, and how it ended. -/
theorem runCommand_startLine {s t : State} (hp : s.inPos.toNat ≤ s.inLen.toNat) (h : runCommand (startLine s) = .next t) :
    OnLine (startLine s) t ∧ t.run = .idle ∧ LineEnded t := by
  have hidle : t.run = .idle := runTokens_idle _ h
  have hkeeps : ∀ u v, (OnLine (startLine s) u ∧ LineStands u) → u.run ≠ .idle → Turn u v →
      OnLine (startLine s) v ∧ LineStands v := by
    rintro u v ⟨hline, hstands⟩ hr hturn
    obtain ⟨r, hg3, hmid⟩ := hstands.resolve_right fun hi => hr hi.1
    have hcase := g3_turn_cases hg3 hturn
    have hw : u.g3Width = (startLine s).g3Width := by rw [hline.frame]
    have hx : u.g3X.toNat ≤ u.g3Width.toNat := by rw [hw]; exact hline.insideLine (Nat.zero_le _)
    have hpos : u.inPos.toNat ≤ u.inLen.toNat := by rw [hline.further.1]; exact (hline.further.2 hp).2
    exact ⟨hline.trans hcase.onLine, hcase.lineStands hx hmid hpos⟩
  have hstart : OnLine (startLine s) (startLine s) ∧ LineStands (startLine s) :=
    ⟨.of_bits rfl (.of_eq rfl rfl), .inl ⟨_, rfl, Bool.noConfusion⟩⟩
  obtain ⟨hline, hstands⟩ := runTokens_keeps_turn hkeeps _ hstart h
  obtain ⟨r, hr, -⟩ | ⟨-, hended⟩ := hstands
  · rw [hidle] at hr; cases hr
  · exact ⟨hline, hidle, hended⟩

/-- A line of no pixels is complete at its start (R140). -/
theorem runCommand_startLine_empty {s : State} (h : s.g3Width = 0) :
    runCommand (startLine s) = .next (raise .ok (startLine s)) := by
  have hwidth : (startLine s).g3Width.toNat = 0 := congrArg BitVec.toNat h
  have hfetch : fetchToken (startLine s) = .done (raise .ok (startLine s)) := by
    obtain ⟨-, hf⟩ | ⟨hm | hx, -⟩ := fetchG3_cases (s := startLine s) rfl
    · exact hf
    · cases hm
    · omega
  rw [runCommand, runTokens_succ_of_turn Running.noConfusion (.inl hfetch), runTokens_of_idle rfl]

/-- Settles O26: the run of a line, from the start that the parameters allow. -/
theorem g3LineEndsAndTouchesOnlyItsLine : Obligations.G3LineEndsAndTouchesOnlyItsLine := by
  unfold Obligations.G3LineEndsAndTouchesOnlyItsLine
  intro s hr hp
  obtain ⟨t, ht, -⟩ := runCommand_startLine_ends s
  obtain ⟨-, -, hstream⟩ := (g3ParamsOk_iff s).1 hp
  have hpos := ((streamOk_iff s).1 hstream).1
  obtain ⟨hline, hidle, hended⟩ := runCommand_startLine hpos ht
  have hw : t.g3Width = s.g3Width := by rw [hline.frame]; rfl
  have hl : t.inLen = s.inLen := by rw [hline.frame]; rfl
  refine ⟨t, by rw [exec_g3Line hr, if_pos hp, ht], ?_, ?_, ?_, ?_, ?_, ?_, ?_⟩
  · rw [hline.frame, hidle, ← hr]; rfl
  · exact hline.insideLine (Nat.zero_le _)
  · exact fun a ha => hline.same a (.inr ha)
  · exact fun a ha => hline.level a (Nat.zero_le _) ha
  · exact hline.further.2 hpos
  · rw [← hw, ← hl]; exact hended
  · intro h0
    rw [runCommand_startLine_empty h0] at ht
    cases ht
    rw [startLine, raise, halt, ← hr]; rfl

end Sys2Proof.Machine
end

section
/-! SUPPORT. A decode from turn to turn, the mask of an icon, and the memories as every kind of step leaves them: the canonical
form, and every listed byte inside its space (20_memory.md R76; 60_exceptions.md R527). -/

namespace Sys2Proof.Machine

/-! ## Further in the same decode (43_rle.md R423, R424) -/

/-- `t` stands further in the decode of `s`: at most the stream, the cursor, the frame and what says that a command runs have
changed, the cursor stays inside the frame, and only bytes of the frame are written. -/
structure InDecode (s t : State) : Prop where
  frame : t =
    { s with inPos := t.inPos, rleX := t.rleX, rleY := t.rleY, fb := t.fb, run := t.run, status := t.status }
  further : FurtherInStream s t
  running : t.run = s.run ∨ t.run = .idle
  column : s.rleX.toNat ≤ s.imgW.toNat → t.rleX.toNat ≤ s.imgW.toNat
  row : s.rleY.toNat ≤ s.imgH.toNat → t.rleY.toNat ≤ s.imgH.toNat
  written : s.fb.WrittenAt (fun a => a < 4 * s.imgW.toNat * s.imgH.toNat) t.fb

theorem InDecode.refl (s : State) : InDecode s s := ⟨rfl, .of_eq rfl rfl, .inl rfl, id, id, .refl⟩

theorem InDecode.trans {s t u : State} (h : InDecode s t) (k : InDecode t u) : InDecode s u := by
  have hw : t.imgW = s.imgW := by rw [h.frame]
  have hh : t.imgH = s.imgH := by rw [h.frame]
  obtain ⟨kframe, kfurther, krunning, kcolumn, krow, kwritten⟩ := k
  rw [hw] at kcolumn
  rw [hh] at krow
  rw [hw, hh] at kwritten
  exact
    { frame := by rw [kframe, h.frame]
      further := h.further.trans kfurther
      running := krunning.elim (fun e => h.running.imp e.trans e.trans) .inr
      column := fun hx => kcolumn (h.column hx)
      row := fun hy => krow (h.row hy)
      written := h.written.trans kwritten }

theorem inDecode_halt (c : ResultCode) (f : ResultFlags) (s : State) : InDecode s (halt c f s) :=
  ⟨rfl, .of_eq rfl rfl, .inr rfl, id, id, .refl⟩

theorem inDecode_finishRle (c : ResultCode) (s : State) : InDecode s (finishRle c s) := inDecode_halt c _ s

theorem inDecode_fetchByte {s t : State} {b : Byte} (h : fetchByte s = some (b, t)) : InDecode s t := by
  have hfurther := fetchByte_further h
  obtain ⟨-, -, rfl⟩ := fetchByte_eq_some.1 h
  exact ⟨rfl, hfurther, .inl rfl, id, id, .refl⟩

theorem inDecode_advance {s : State} {k : Nat} (h : k ≤ bytesToEnd s) : InDecode s (advance k s) := by
  refine ⟨rfl, ⟨rfl, fun hp => ?_⟩, .inl rfl, id, id, .refl⟩
  have hlen := s.inLen.isLt
  rw [bytesToEnd_of_le hp] at h
  rw [advance_inPos, BitVec.toNat_ofNat, Nat.mod_eq_of_lt (by omega)]
  omega

theorem toNat_ofNat_min_le (a : Nat) (w : Word) : (BitVec.ofNat 32 (min a w.toNat)).toNat ≤ w.toNat := by
  rw [BitVec.toNat_ofNat]
  exact Nat.le_trans (Nat.mod_le _ _) (Nat.min_le_right _ _)

/-- A pixel put lies in the frame or is dropped. -/
theorem inDecode_put (p : Pixel) (s : State) : InDecode s (put p s) := by
  refine ⟨rfl, .of_eq rfl rfl, .inl rfl, fun _ => toNat_ofNat_min_le _ _, id, ?_⟩
  rw [put_fb]
  split
  · rename_i hin
    have haddr := pixelAddr_lt hin.1 (destY_lt (b := s.rleBottomUp) hin.2)
    exact Memory.writtenAt_writePixel (fun x _ hx => by omega) _ _
  · exact .refl

theorem inDecode_putPixels (n : Nat) (px : Nat → Pixel) (s : State) : InDecode s (putPixels n px s) :=
  forUpTo_keeps (InDecode s) (fun k t => put (px k) t) n s (fun k _ t ht => ht.trans (inDecode_put (px k) t)) (.refl s)

theorem inDecode_moveCursor (dx dy : Nat) (s : State) : InDecode s (moveCursor dx dy s) :=
  ⟨rfl, .of_eq rfl rfl, .inl rfl, fun _ => toNat_ofNat_min_le _ _, fun _ => toNat_ofNat_min_le _ _, .refl⟩

theorem inDecode_rleEndOfLine (s : State) : InDecode s (rleEndOfLine s) :=
  ⟨rfl, .of_eq rfl rfl, .inl rfl, fun _ => Nat.zero_le _, fun _ => toNat_ofNat_min_le _ _, .refl⟩

/-- What a run does: `n` pixels after `c` bytes where they are there, `q` and the end of the decode where they are not. -/
theorem inDecode_run {s : State} {c n q : Nat} (px : Nat → Pixel) :
    InDecode s
      (if c ≤ bytesToEnd s then putPixels n px (advance c s)
      else finishRle .truncated (putPixels q px (advance (bytesToEnd s) s))) := by
  split
  · exact (inDecode_advance ‹_›).trans (inDecode_putPixels n px _)
  · exact ((inDecode_advance (Nat.le_refl _)).trans (inDecode_putPixels q px _)).trans (inDecode_finishRle _ _)

theorem inDecode_rleDelta (s : State) : InDecode s (rleDelta s) := by
  unfold rleDelta
  split
  · exact inDecode_finishRle _ s
  · rename_i h1
    split
    · exact (inDecode_fetchByte h1).trans (inDecode_finishRle _ _)
    · rename_i h2
      exact ((inDecode_fetchByte h1).trans (inDecode_fetchByte h2)).trans (inDecode_moveCursor _ _ _)

theorem inDecode_inRleMode {m : RleMode} {s t : State} {k : State → State} (hk : InDecode s (k s))
    (h : inRleMode m s k = .next t) : InDecode s t := by
  obtain ⟨-, -, rfl⟩ := inRleMode_next.1 h
  exact hk

theorem inDecode_inRle {s t : State} {k : State → State} (hk : InDecode s (k s)) (h : inRle s k = .next t) :
    InDecode s t := by
  obtain ⟨-, rfl⟩ := inRle_next.1 h
  exact hk

/-- Every stream command stays in its decode. -/
theorem inDecode_execToken {m : RleMode} {a b : Byte} {s t : State} (h : execToken (decodeRle m a b) s = .next t) :
    InDecode s t := by
  unfold decodeRle at h
  split at h
  · cases m with
    | rle8 => exact inDecode_inRleMode (k := runRle8 a b) (inDecode_putPixels _ _ s) h
    | rle4 => exact inDecode_inRleMode (k := runRle4 a b) (by rw [runRle4, putNibbles_eq]; exact inDecode_putPixels _ _ s) h
    | rle24 => exact inDecode_inRleMode (k := runRle24 a b) (by rw [runRle24_eq]; exact inDecode_run (q := 0) _) h
  split at h
  · exact inDecode_inRle (inDecode_rleEndOfLine s) h
  split at h
  · exact inDecode_inRle (inDecode_finishRle .ok s) h
  split at h
  · exact inDecode_inRle (inDecode_rleDelta s) h
  · cases m with
    | rle8 => exact inDecode_inRleMode (k := absRle8 b) (by rw [absRle8_eq]; exact inDecode_run _) h
    | rle4 => exact inDecode_inRleMode (k := absRle4 b) (by rw [absRle4_eq]; exact inDecode_run _) h
    | rle24 => exact inDecode_inRleMode (k := absRle24 b) (by rw [absRle24_eq]; exact inDecode_run _) h

/-- What a decode finds to do next, in the decode of `s`. -/
def Fetched.staysInDecode (s : State) : Fetched → Prop
  | .instr i t => InDecode s t ∧ ∃ m a b, i = decodeRle m a b
  | .done t => InDecode s t
  | .fault _ => False

theorem fetchRle_staysInDecode (s : State) : (fetchRle s).staysInDecode s := by
  unfold fetchRle
  split
  · exact inDecode_finishRle _ s
  split
  · exact inDecode_halt _ _ s
  split
  · exact inDecode_finishRle _ s
  · rename_i h1
    split
    · exact (inDecode_fetchByte h1).trans (inDecode_finishRle _ _)
    · rename_i h2
      exact ⟨(inDecode_fetchByte h1).trans (inDecode_fetchByte h2), _, _, _, rfl⟩

theorem rle_turn_inDecode {s t : State} (hr : s.run = .rle) (h : Turn s t) : InDecode s t := by
  have hfound := fetchRle_staysInDecode s
  have hfetch : fetchToken s = fetchRle s := by rw [fetchToken, hr]
  rw [← hfetch] at hfound
  obtain hd | ⟨i, u, hi, he⟩ := h
  · rwa [hd] at hfound
  · rw [hi] at hfound
    obtain ⟨hu, m, a, b, rfl⟩ := hfound
    exact hu.trans (inDecode_execToken he)

/-- A decode from its start to its end. -/
theorem runCommand_startRle {s t : State} (h : runCommand (startRle s) = .next t) : InDecode (startRle s) t := by
  have hkeeps : ∀ u v, InDecode (startRle s) u → u.run ≠ .idle → Turn u v → InDecode (startRle s) v :=
    fun u v hu hr hturn => hu.trans (rle_turn_inDecode (hu.running.resolve_right hr) hturn)
  exact runTokens_keeps_turn hkeeps _ (.refl _) h

/-! ## The mask of an icon (46_icon_mask.md R501 to R504) -/

/-- At most the stream cursor has moved and bytes of the stacked mask image have been written. -/
structure OnMask (s t : State) : Prop where
  frame : t = { s with inPos := t.inPos, mb := t.mb }
  written : s.mb.WrittenAt (fun a => a < 4 * s.icnMw.toNat * s.icnMh.toNat) t.mb

theorem OnMask.refl (s : State) : OnMask s s := ⟨rfl, .refl⟩

theorem OnMask.trans {s t u : State} (h : OnMask s t) (k : OnMask t u) : OnMask s u := by
  obtain ⟨hframe, hwritten⟩ := h
  obtain ⟨kframe, kwritten⟩ := k
  have hw : t.icnMw = s.icnMw := by rw [hframe]
  have hh : t.icnMh = s.icnMh := by rw [hframe]
  rw [hw, hh] at kwritten
  exact ⟨by rw [kframe, hframe], hwritten.trans kwritten⟩

theorem onMask_unpackByte {r : Nat} {s : State} (hr : r < s.icnMh.toNat) (k : Nat) (b : Byte) :
    OnMask s (unpackByte r k b s) := by
  refine forUpTo_keeps (OnMask s) _ 8 s (fun j _ t ht => ?_) (.refl s)
  have hh : t.icnMh = s.icnMh := by rw [ht.frame]
  split
  · rename_i hx
    rw [← hh] at hr
    have haddr := pixelAddr_lt hx hr
    exact ht.trans ⟨rfl, Memory.writtenAt_writePixel (fun x _ hx => by omega) _ _⟩
  · exact ht

theorem onMask_unpackStep {r : Nat} {s : State} (hr : r < s.icnMh.toNat) (k : Nat) : OnMask s (unpackStep r k s) := by
  unfold unpackStep
  split
  · exact .refl s
  · rename_i b t h
    obtain ⟨-, -, rfl⟩ := fetchByte_eq_some.1 h
    have hfetched : OnMask s { s with inPos := s.inPos + 1 } := ⟨rfl, .refl⟩
    exact hfetched.trans (onMask_unpackByte (s := { s with inPos := s.inPos + 1 }) hr k b)

theorem onMask_unpackRow {y : Nat} {s : State} (hy : y < s.icnMh.toNat) : OnMask s (unpackRow y s) := by
  refine forUpTo_keeps (OnMask s) (unpackStep (destY s.icnBottomUp s.icnMh.toNat y)) _ s (fun k _ t ht => ?_) (.refl s)
  have hh : t.icnMh = s.icnMh := by rw [ht.frame]
  exact ht.trans (onMask_unpackStep (by rw [hh]; exact destY_lt hy) k)

theorem onMask_unpackImage (s : State) : OnMask s (unpackImage s) := by
  refine forUpTo_keeps (OnMask s) unpackRow s.icnMh.toNat s (fun y hy t ht => ?_) (.refl s)
  have hh : t.icnMh = s.icnMh := by rw [ht.frame]
  exact ht.trans (onMask_unpackRow (by rw [hh]; exact hy))

theorem monoFrame_written (s : State) :
    s.fb.WrittenAt (fun a => a < 4 * s.icnMw.toNat * (s.icnMh.toNat / 2)) (monoFrame s) :=
  Memory.writtenAt_forUpTo
    (fun r hr _ => Memory.writtenAt_forUpTo
      (fun x hx m => Memory.writtenAt_writePixel
        (fun a _ ha => by have := pixelAddr_lt hx hr; unfold icnHalf at this; omega) m _) _) _

theorem alphaFrame_written (s : State) :
    s.fb.WrittenAt (fun a => a < 4 * s.imgW.toNat * (s.icnMh.toNat / 2)) (alphaFrame s) :=
  Memory.writtenAt_forUpTo
    (fun r hr _ => Memory.writtenAt_forUpTo
      (fun x hx m => Memory.writtenAt_write (by have := pixelAddr_lt hx hr; unfold icnHalf at this; omega) m _) _) _

/-! ## What is stored, space by space -/

/-- Every memory of `t` is that of `s` after writes at addresses where `ok` holds of the space. -/
def Stored (ok : Space → Nat → Prop) (s t : State) : Prop := ∀ sp, (s.memOf sp).WrittenAt (ok sp) (t.memOf sp)

theorem memOf_withMem_same (s : State) (sp : Space) (m : Memory) : (s.withMem sp m).memOf sp = m := by cases sp <;> rfl

theorem memOf_withMem_other {sp sp' : Space} (h : sp' ≠ sp) (s : State) (m : Memory) :
    (s.withMem sp m).memOf sp' = s.memOf sp' := by
  cases sp <;> cases sp' <;> simp [State.withMem, State.memOf] at h ⊢

section
variable {ok : Space → Nat → Prop} {s t u : State}

theorem Stored.trans (h : Stored ok s t) (k : Stored ok t u) : Stored ok s u := fun sp => (h sp).trans (k sp)

theorem stored_of_memOf_eq (h : ∀ sp, t.memOf sp = s.memOf sp) : Stored ok s t := fun sp => by rw [h sp]

theorem Stored.memoriesWf (h : Stored ok s t) (hs : s.memoriesWf) : t.memoriesWf := by
  obtain ⟨hin, hpal, hlb, hmb, hfb⟩ := hs
  exact ⟨(h .input).wf hin, (h .pal).wf hpal, (h .lb).wf hlb, (h .mb).wf hmb, (h .fb).wf hfb⟩

theorem Stored.withinCapacity (h : Stored (fun sp a => a < spaceSize s.cfg sp) s t) (hcfg : t.cfg = s.cfg)
    (hs : s.withinCapacity) : t.withinCapacity := by
  obtain ⟨hin, hpal, hlb, hmb, hfb⟩ := hs
  unfold State.withinCapacity
  rw [hcfg]
  exact ⟨(h .input).bounded (fun _ => id) hin, (h .pal).bounded (fun _ => id) hpal, (h .lb).bounded (fun _ => id) hlb,
    (h .mb).bounded (fun _ => id) hmb, (h .fb).bounded (fun _ => id) hfb⟩

theorem stored_withMem {sp : Space} {m : Memory} (h : (s.memOf sp).WrittenAt (ok sp) m) : Stored ok s (s.withMem sp m) := by
  intro sp'
  by_cases e : sp' = sp
  · subst e; rw [memOf_withMem_same]; exact h
  · rw [memOf_withMem_other e]

theorem OnLine.stored (h : OnLine s t) (hok : ∀ a, a < s.g3Width.toNat → ok .lb a) : Stored ok s t := by
  intro sp
  cases sp with
  | lb => exact h.written.mono hok
  | input | pal | mb | fb => rw [h.frame]; exact .refl

theorem InDecode.stored (h : InDecode s t) (hok : ∀ a, a < 4 * s.imgW.toNat * s.imgH.toNat → ok .fb a) : Stored ok s t := by
  intro sp
  cases sp with
  | fb => exact h.written.mono hok
  | input | pal | mb | lb => rw [h.frame]; exact .refl

theorem OnMask.stored (h : OnMask s t) (hok : ∀ a, a < 4 * s.icnMw.toNat * s.icnMh.toNat → ok .mb a) : Stored ok s t := by
  intro sp
  cases sp with
  | mb => exact h.written.mono hok
  | input | pal | lb | fb => rw [h.frame]; exact .refl

end

/-! ## What every command stores (60_exceptions.md R527) -/

theorem memOf_halt (c : ResultCode) (f : ResultFlags) (s : State) (sp : Space) : (halt c f s).memOf sp = s.memOf sp := by
  cases sp <;> rfl

theorem stored_halt {ok : Space → Nat → Prop} (c : ResultCode) (f : ResultFlags) (s : State) : Stored ok s (halt c f s) :=
  stored_of_memOf_eq (memOf_halt c f s)

theorem memOf_fxcChecked {s t : State} (h : ∀ sp, t.memOf sp = s.memOf sp) (f : ResultFlags) (sp : Space) :
    (fxcChecked s t f).memOf sp = s.memOf sp := by
  unfold fxcChecked
  split
  · exact memOf_halt _ _ s sp
  split
  · exact memOf_halt _ _ s sp
  · rw [memOf_halt]; exact h sp

section
variable {ok : Space → Nat → Prop} {s t : State}

theorem stored_g3Line (hcap : ∀ sp a, a < spaceSize s.cfg sp → ok sp a) (hr : s.run = .idle)
    (h : exec .g3Line s = .next t) : Stored ok s t := by
  rw [exec_g3Line hr] at h
  split at h
  · rename_i hp
    obtain ⟨-, hw, hstream⟩ := (g3ParamsOk_iff s).1 hp
    obtain ⟨hline, -, -⟩ := runCommand_startLine ((streamOk_iff s).1 hstream).1 h
    have hstart : Stored ok s (startLine s) := stored_of_memOf_eq fun sp => by cases sp <;> rfl
    exact hstart.trans (hline.stored fun a ha => hcap .lb a (Nat.lt_of_lt_of_le ha (Nat.le_trans hw (Nat.min_le_right _ _))))
  · cases h; exact stored_halt _ _ s

theorem stored_startRle (hframe : ∀ a, a < 4 * s.imgW.toNat * s.imgH.toNat → ok .fb a) : Stored ok s (startRle s) := by
  have hfill : s.fb.WrittenAt (ok .fb) (s.fb.fillPixels (s.imgW.toNat * s.imgH.toNat) (rleFill s)) :=
    Memory.writtenAt_forUpTo (fun k hk m => Memory.writtenAt_writePixel
      (fun x _ hx => hframe x (by rw [Nat.mul_assoc]; omega)) m _) _
  exact stored_withMem (sp := .fb) hfill

theorem stored_rleDecode (hcap : ∀ sp a, a < spaceSize s.cfg sp → ok sp a) (hr : s.run = .idle)
    (h : exec .rleDecode s = .next t) : Stored ok s t := by
  rw [exec_rleDecode hr] at h
  split at h
  · rename_i hp
    obtain ⟨-, -, -, -, -, hfits, -⟩ := (rleParamsOk_iff s).1 hp
    have hframe : ∀ a, a < 4 * s.imgW.toNat * s.imgH.toNat → ok .fb a :=
      fun a ha => hcap .fb a (Nat.lt_of_lt_of_le ha hfits)
    exact (stored_startRle hframe).trans ((runCommand_startRle h).stored hframe)
  · cases h; exact stored_halt _ _ s

theorem stored_icnUnpack1 (hcap : ∀ sp a, a < spaceSize s.cfg sp → ok sp a) (hr : s.run = .idle)
    (h : exec .icnUnpack1 s = .next t) : Stored ok s t := by
  rw [exec_icnUnpack1 hr] at h
  cases h
  split
  · exact stored_halt _ _ s
  rename_i hp
  split
  · exact stored_halt _ _ s
  · obtain ⟨-, hmask, -⟩ := (unpackParamsOk_iff s).1 (by simpa using hp)
    obtain ⟨-, -, hfits⟩ := (maskImageOk_iff s).1 hmask
    exact ((onMask_unpackImage s).stored fun a ha => hcap .mb a (Nat.lt_of_lt_of_le ha hfits)).trans (stored_halt _ _ _)

theorem stored_icnMono (hcap : ∀ sp a, a < spaceSize s.cfg sp → ok sp a) (hr : s.run = .idle)
    (h : exec .icnMono s = .next t) : Stored ok s t := by
  rw [exec_icnMono hr] at h
  cases h
  split
  · exact stored_halt _ _ s
  rename_i hp
  split
  · exact stored_halt _ _ s
  · obtain ⟨-, hfits⟩ := (monoParamsOk_iff s).1 (by simpa using hp)
    have hstore : Stored ok s (s.withMem .fb (monoFrame s)) :=
      stored_withMem ((monoFrame_written s).mono fun a ha => hcap .fb a (Nat.lt_of_lt_of_le ha hfits))
    exact fun sp => by cases sp <;> exact hstore _

theorem stored_icnAlpha (hcap : ∀ sp a, a < spaceSize s.cfg sp → ok sp a) (hr : s.run = .idle)
    (h : exec .icnAlpha s = .next t) : Stored ok s t := by
  rw [exec_icnAlpha hr] at h
  cases h
  split
  · exact stored_halt _ _ s
  rename_i hp
  split
  · exact stored_halt _ _ s
  split
  · exact stored_halt _ _ s
  · rename_i hmatch
    obtain ⟨-, -, -, hfits⟩ := (alphaParamsOk_iff s).1 (by simpa using hp)
    have hhalf : s.imgH.toNat = s.icnMh.toNat / 2 := by
      simp only [sizeMismatch, Bool.or_eq_true, decide_eq_true_eq, not_or, ne_eq, Decidable.not_not] at hmatch
      exact hmatch.2
    rw [hhalf] at hfits
    have hstore : Stored ok s (s.withMem .fb (alphaFrame s)) :=
      stored_withMem ((alphaFrame_written s).mono fun a ha => hcap .fb a (Nat.lt_of_lt_of_le ha hfits))
    exact hstore.trans (stored_halt _ _ _)

/-- Every command stores inside the capacities alone: the tests of its parameters see to it (R527). -/
theorem exec_command_stored {i : Instr} (hi : i.isCommand = true) (hcap : ∀ sp a, a < spaceSize s.cfg sp → ok sp a)
    (h : exec i s = .next t) : Stored ok s t := by
  have hr := idle_of_exec_command hi h
  cases i, hi using Instr.command_cases with
  | nop => cases (exec_nop hr).symm.trans h; exact stored_halt _ _ s
  | g3Reset => cases (exec_g3Reset hr).symm.trans h; exact stored_of_memOf_eq fun sp => by cases sp <;> rfl
  | g3Line => exact stored_g3Line hcap hr h
  | rleDecode => exact stored_rleDecode hcap hr h
  | cmeNew ch => cases (exec_cmeNew hr ch).symm.trans h; exact stored_of_memOf_eq fun sp => by cases sp <;> rfl
  | cmeExtract ch => cases (exec_cmeExtract hr ch).symm.trans h; exact stored_of_memOf_eq fun sp => by cases sp <;> rfl
  | cmeRgba => cases (exec_cmeRgba hr).symm.trans h; exact stored_of_memOf_eq fun sp => by cases sp <;> rfl
  | fxcDec =>
    cases (exec_fxcDec hr).symm.trans h
    exact stored_of_memOf_eq (memOf_fxcChecked (fun sp => by cases sp <;> rfl) _)
  | fxcEnc =>
    cases (exec_fxcEnc hr).symm.trans h
    exact stored_of_memOf_eq (memOf_fxcChecked (fun sp => by cases sp <;> rfl) _)
  | icnUnpack1 => exact stored_icnUnpack1 hcap hr h
  | icnMono => exact stored_icnMono hcap hr h
  | icnAlpha => exact stored_icnAlpha hcap hr h

end

theorem fxcChecked_run {s t : State} (f : ResultFlags) : (fxcChecked s t f).run = .idle := by
  unfold fxcChecked
  split
  · rfl
  split
  · rfl
  · rfl

/-- After a command none is in progress (20_memory.md R80). -/
theorem exec_command_idle {i : Instr} {s t : State} (hi : i.isCommand = true) (h : exec i s = .next t) : t.run = .idle := by
  have hr := idle_of_exec_command hi h
  cases i, hi using Instr.command_cases with
  | nop => cases (exec_nop hr).symm.trans h; rfl
  | g3Reset => cases (exec_g3Reset hr).symm.trans h; rfl
  | cmeNew ch => cases (exec_cmeNew hr ch).symm.trans h; rfl
  | cmeExtract ch => cases (exec_cmeExtract hr ch).symm.trans h; rfl
  | cmeRgba => cases (exec_cmeRgba hr).symm.trans h; rfl
  | fxcDec => cases (exec_fxcDec hr).symm.trans h; exact fxcChecked_run _
  | fxcEnc => cases (exec_fxcEnc hr).symm.trans h; exact fxcChecked_run _
  | g3Line =>
    rw [exec_g3Line hr] at h
    split at h
    · exact runTokens_idle _ h
    · cases h; rfl
  | rleDecode =>
    rw [exec_rleDecode hr] at h
    split at h
    · exact runTokens_idle _ h
    · cases h; rfl
  | icnUnpack1 =>
    rw [exec_icnUnpack1 hr] at h
    cases h
    split
    · rfl
    split
    · rfl
    · rfl
  | icnMono =>
    rw [exec_icnMono hr] at h
    cases h
    split
    · rfl
    split
    · rfl
    · rfl
  | icnAlpha =>
    rw [exec_icnAlpha hr] at h
    cases h
    split
    · rfl
    split
    · rfl
    split
    · rfl
    · rfl

/-! ## What every access of the host stores (20_memory.md R60, R63) -/

theorem memOf_csrWriteAt (s : State) (off : Nat) (v : Word) (sp : Space) : (csrWriteAt s off v).memOf sp = s.memOf sp := by
  rw [csrWriteAt_frame]
  cases sp <;> rfl

theorem hostAccess_stored {ok : Space → Nat → Prop} {a : HostAction} {s t : State} (ha : a ≠ .reset)
    (hcap : ∀ sp x, x < spaceSize s.cfg sp → ok sp x) (h : hostAccess a s = .done t) : Stored ok s t := by
  cases a with
  | wr off v =>
    rw [hostAccess_wr] at h
    split at h
    · cases h
    split at h
    · unfold fetchCommand at h
      split at h
      · cases h
      · cases h; exact stored_halt _ _ s
    · cases h; exact stored_of_memOf_eq (memOf_csrWriteAt s off v)
  | rd off =>
    rw [hostAccess_rd] at h
    split at h
    · cases h
    · cases h; exact stored_of_memOf_eq fun sp => by cases sp <;> rfl
  | load sp x b =>
    by_cases hpal : sp = .pal
    · subst hpal; cases h
    rw [hostAccess_load hpal] at h
    split at h
    · cases h; exact stored_withMem (Memory.writtenAt_write (hcap sp x ‹_›) _ b)
    · cases h
  | loadPal i r g b =>
    cases h
    have hi := i.isLt
    refine stored_withMem (sp := .pal) (Memory.writtenAt_writeBytes [r, g, b] (fun x _ hx => hcap .pal x ?_) s.pal)
    simp only [palAddr, List.length_cons, List.length_nil, spaceSize] at hx ⊢
    omega
  | read sp x =>
    by_cases hin : sp = .input
    · subst hin; cases h
    by_cases hpal : sp = .pal
    · subst hpal; cases h
    rw [hostAccess_read hin hpal] at h
    split at h
    · cases h; exact stored_of_memOf_eq fun sp => by cases sp <;> rfl
    · cases h
  | reset => exact absurd rfl ha

theorem hostAccess_run {a : HostAction} {s t : State} (ha : a ≠ .reset) (hr : s.run = .idle)
    (h : hostAccess a s = .done t) : t.run = .idle := by
  have hfound := hostAccess_ofAccess ha s
  rw [h] at hfound
  obtain htouched | rfl := hfound
  · rw [htouched]; exact hr
  · rfl

/-! ## Every step -/

/-- What a step that answers a next state can be. -/
inductive StepKind (s : State) : State → Prop
  /-- The external reset. -/
  | reset (u : State) : StepKind s (externalReset u)
  /-- Nothing to do. -/
  | stays : StepKind s s
  /-- A turn of the command in progress. -/
  | turn {t : State} (hr : s.run ≠ .idle) (h : Turn s t) : StepKind s t
  /-- An access of the host that is no command. -/
  | access {a : HostAction} {rest : List HostAction} {t : State} (hr : s.run = .idle) (ha : a ≠ .reset)
    (h : hostAccess a { s with host := rest } = .done t) : StepKind s t
  /-- A command, from its start to its end. -/
  | command {i : Instr} {rest : List HostAction} {t : State} (hi : i.isCommand = true)
    (h : exec i { s with host := rest } = .next t) : StepKind s t

theorem step_kind {s t : State} (h : step s = .next t) : StepKind s t := by
  by_cases hreset : s.host.head? = some .reset
  · obtain ⟨rest, hh⟩ : ∃ rest, s.host = .reset :: rest := List.head?_eq_some_iff.1 hreset
    cases (step_reset hh).symm.trans h
    exact .reset _
  by_cases hr : s.run = .idle
  · cases hh : s.host with
    | nil =>
      cases (step_idle hr hh).symm.trans h
      exact .stays
    | cons a rest =>
      have ha : a ≠ .reset := fun e => hreset (by rw [hh, e]; rfl)
      have hfetch := fetch_host hr hh
      obtain hf | ⟨i, u, hf, he⟩ := step_next h
      · exact .access hr ha (hfetch.symm.trans hf)
      · have hlegal : a.legal s.cfg = true := by
          cases hl : a.legal s.cfg with
          | true => rfl
          | false =>
            obtain ⟨f, hfault⟩ := step_of_illegal_access hr hh hl
            cases hfault.symm.trans h
        have hinstr := hfetch.symm.trans hf
        obtain ⟨v, hv⟩ | ⟨j, hj, hv⟩ := hostAccess_of_legal (s := { s with host := rest }) hlegal
        · cases hv.symm.trans hinstr
        · cases hv.symm.trans hinstr
          exact .command hj he
  · obtain ⟨u, hu⟩ := running_has_turn hr
    cases (step_of_turn hr hreset hu).symm.trans h
    exact .turn hr hu

/-- Where the command in progress may write (20_memory.md R76). -/
def State.turnArea (s : State) : Space → Nat → Prop
  | .lb, a => (∃ r, s.run = .g3 r) ∧ a < s.g3Width.toNat
  | .fb, a => s.run = .rle ∧ a < 4 * s.imgW.toNat * s.imgH.toNat
  | _, _ => False

/-- A step that is no reset stores inside the capacities, or where the command in progress may write. -/
theorem step_stored {ok : Space → Nat → Prop} {s t : State} (hcap : ∀ sp a, a < spaceSize s.cfg sp → ok sp a)
    (harea : ∀ sp a, s.turnArea sp a → ok sp a) (h : step s = .next t) : (∃ u, t = externalReset u) ∨ Stored ok s t := by
  cases step_kind h with
  | reset u => exact .inl ⟨u, rfl⟩
  | stays => exact .inr (stored_of_memOf_eq fun _ => rfl)
  | turn hr hturn =>
    refine .inr ?_
    cases hrun : s.run with
    | idle => exact absurd hrun hr
    | g3 r => exact (g3_turn_cases hrun hturn).onLine.stored fun a ha => harea .lb a ⟨⟨r, hrun⟩, ha⟩
    | rle => exact (rle_turn_inDecode hrun hturn).stored fun a ha => harea .fb a ⟨hrun, ha⟩
  | access hr ha haccess =>
    rename_i a rest
    have hhost : Stored ok s { s with host := rest } := stored_of_memOf_eq fun sp => by cases sp <;> rfl
    exact .inr (hhost.trans (hostAccess_stored ha hcap haccess))
  | command hi hexec =>
    rename_i i rest
    have hhost : Stored ok s { s with host := rest } := stored_of_memOf_eq fun sp => by cases sp <;> rfl
    exact .inr (hhost.trans (exec_command_stored hi hcap hexec))

theorem externalReset_memories (s : State) : (externalReset s).memoriesWf ∧ (externalReset s).withinCapacity := by
  simp [State.memoriesWf, State.withinCapacity, externalReset, State.reset]

/-- Settles O53: a reset empties every memory, and every other step changes them by writes, which keep the form. -/
theorem stepKeepsTheMemoriesCanonical : Obligations.StepKeepsTheMemoriesCanonical := by
  unfold Obligations.StepKeepsTheMemoriesCanonical
  intro s t hs h
  obtain ⟨u, rfl⟩ | hstored := step_stored (ok := fun _ _ => True) (fun _ _ _ => trivial) (fun _ _ _ => trivial) h
  · exact (externalReset_memories u).1
  · exact hstored.memoriesWf hs

/-! ## Cursors inside line and frame (10_state.md R28, R31) -/

theorem progressLegal_idle {s : State} (h : s.run = .idle) : s.progressLegal = true := by
  rw [State.progressLegal, h]

theorem progressLegal_g3 {s : State} {r : G3Run} (h : s.run = .g3 r) :
    s.progressLegal = true ↔
      g3ParamsOk s = true ∧ s.g3X.toNat ≤ s.g3Width.toNat ∧ r.acc ≤ maxDim ∧ (r.midRun = true ∨ r.acc = 0) := by
  simp only [State.progressLegal, h, Bool.and_eq_true, Bool.or_eq_true, decide_eq_true_eq, and_assoc]

theorem progressLegal_rle {s : State} (h : s.run = .rle) :
    s.progressLegal = true ↔
      rleParamsOk s = true ∧ s.rleX.toNat ≤ s.imgW.toNat ∧ s.rleY.toNat ≤ s.imgH.toNat := by
  simp only [State.progressLegal, h, Bool.and_eq_true, decide_eq_true_eq, and_assoc]

theorem FurtherInStream.streamOk {s t : State} (h : FurtherInStream s t) (hcfg : t.cfg = s.cfg)
    (hs : streamOk s = true) : streamOk t = true := by
  obtain ⟨hlen, hpos⟩ := h
  obtain ⟨hle, hsize⟩ := (streamOk_iff s).1 hs
  refine (streamOk_iff t).2 ?_
  rw [hlen, hcfg]
  exact ⟨(hpos hle).2, hsize⟩

theorem OnLine.g3ParamsOk {s t : State} (h : OnLine s t) (hs : g3ParamsOk s = true) : g3ParamsOk t = true := by
  obtain ⟨hctrl, hwidth, hstream⟩ := (g3ParamsOk_iff s).1 hs
  have hcfg : t.cfg = s.cfg := by rw [h.frame]
  refine (g3ParamsOk_iff t).2 ⟨?_, ?_, h.further.streamOk hcfg hstream⟩
  · rw [h.frame]; exact hctrl
  · rw [hcfg, h.frame]; exact hwidth

theorem InDecode.rleParamsOk {s t : State} (h : InDecode s t) (hs : rleParamsOk s = true) : rleParamsOk t = true := by
  obtain ⟨hctrl, hmode, hw, hh, hpal, hfits, hstream⟩ := (rleParamsOk_iff s).1 hs
  have hcfg : t.cfg = s.cfg := by rw [h.frame]
  have hmode' : t.rleMode = s.rleMode := by rw [h.frame]; rfl
  have hregs : t.rleCtrl = s.rleCtrl ∧ t.imgW = s.imgW ∧ t.imgH = s.imgH ∧ t.palCount = s.palCount := by
    rw [h.frame]; exact ⟨rfl, rfl, rfl, rfl⟩
  obtain ⟨ectrl, ew, eh, epal⟩ := hregs
  refine (rleParamsOk_iff t).2 ⟨?_, ?_, ?_, ?_, ?_, ?_, h.further.streamOk hcfg hstream⟩
  · rw [ectrl]; exact hctrl
  · rw [hmode']; exact hmode
  · rw [ew]; exact hw
  · rw [eh]; exact hh
  · rw [epal]; exact hpal
  · rw [ew, eh, hcfg]; exact hfits

/-- A turn of a line ends it, or leaves a run length that the rules allow (40_g3_huffman.md R158). -/
theorem LineTurn.runLegal {s t : State} {r : G3Run} (h : LineTurn s r t) :
    t.run = .idle ∨ ∃ r', t.run = .g3 r' ∧ r'.acc ≤ maxDim ∧ (r'.midRun = true ∨ r'.acc = 0) := by
  cases h with
  | complete | cut | eolEnds => exact .inl rfl
  | abort => exact .inl (by rw [abortLine_eq]; rfl)
  | eolSkipped hm =>
    have hrun : lineRun r = { r with acc := 0 } := if_neg (by simp [hm])
    exact .inr ⟨lineRun r, rfl, by simp [hrun], .inr (by rw [hrun])⟩
  | endsRun row => exact .inr ⟨_, rfl, Nat.zero_le _, .inr rfl⟩
  | goesOn hx row => exact .inr ⟨_, makeup_run _ _ _ _, Nat.min_le_right _ _, .inl rfl⟩

theorem turn_progressLegal {s t : State} (hs : s.progressLegal = true) (h : Turn s t) : t.progressLegal = true := by
  cases hr : s.run with
  | idle =>
    have hfetch : fetchToken s = .done s := by rw [fetchToken, hr]
    rw [turn_of_done hfetch h]
    exact hs
  | g3 r =>
    obtain ⟨hparams, hx, -⟩ := (progressLegal_g3 hr).1 hs
    have hcase := g3_turn_cases hr h
    have hline := hcase.onLine
    have hw : t.g3Width = s.g3Width := by rw [hline.frame]
    obtain hidle | ⟨r', hr', hacc⟩ := hcase.runLegal
    · exact progressLegal_idle hidle
    · exact (progressLegal_g3 hr').2 ⟨hline.g3ParamsOk hparams, by rw [hw]; exact hline.insideLine hx, hacc⟩
  | rle =>
    obtain ⟨hparams, hx, hy⟩ := (progressLegal_rle hr).1 hs
    have hdecode := rle_turn_inDecode hr h
    have hdims : t.imgW = s.imgW ∧ t.imgH = s.imgH := by rw [hdecode.frame]; exact ⟨rfl, rfl⟩
    obtain ⟨hw, hh⟩ := hdims
    obtain hr' | hidle := hdecode.running
    · refine (progressLegal_rle (hr'.trans hr)).2 ⟨hdecode.rleParamsOk hparams, ?_, ?_⟩
      · rw [hw]; exact hdecode.column hx
      · rw [hh]; exact hdecode.row hy
    · exact progressLegal_idle hidle

theorem step_progressLegal {s t : State} (hs : s.progressLegal = true) (h : step s = .next t) : t.progressLegal = true := by
  cases step_kind h with
  | reset u => exact progressLegal_idle rfl
  | stays => exact hs
  | turn hr hturn => exact turn_progressLegal hs hturn
  | access hr ha haccess =>
    rename_i a rest
    exact progressLegal_idle (hostAccess_run (s := { s with host := rest }) ha hr haccess)
  | command hi hexec => exact progressLegal_idle (exec_command_idle hi hexec)

/-- With legal parameters the command in progress writes inside its space (60_exceptions.md R527). -/
theorem turnArea_lt {s : State} (hs : s.progressLegal = true) {sp : Space} {a : Nat} (h : s.turnArea sp a) :
    a < spaceSize s.cfg sp := by
  cases sp with
  | lb =>
    obtain ⟨⟨r, hr⟩, ha⟩ := h
    obtain ⟨hparams, -⟩ := (progressLegal_g3 hr).1 hs
    obtain ⟨-, hwidth, -⟩ := (g3ParamsOk_iff s).1 hparams
    exact Nat.lt_of_lt_of_le ha (Nat.le_trans hwidth (Nat.min_le_right _ _))
  | fb =>
    obtain ⟨hr, ha⟩ := h
    obtain ⟨hparams, -⟩ := (progressLegal_rle hr).1 hs
    obtain ⟨-, -, -, -, -, hfits, -⟩ := (rleParamsOk_iff s).1 hparams
    exact Nat.lt_of_lt_of_le ha hfits
  | input | pal | mb => exact h.elim

/-- Only the host's side of a reset keeps the parameters by its own rule (log 9); every other step leaves them. -/
theorem step_cfg {s t : State} (h : step s = .next t) : (∃ u, t = externalReset u) ∨ t.cfg = s.cfg := by
  obtain hreset | ⟨u, hhost, heffects⟩ := step_cases h
  · exact .inl hreset
  · have hkept : HostOnlyKept u t := heffects.keeps (fun _ _ he hk => hk.trans he.hostOnlyKept) rfl
    exact .inr (by rw [hkept, hhost])

/-- Settles O57: what a step stores lies inside the capacities, and its turn leaves the cursors inside line and frame. -/
theorem stepKeepsAccessesInsideCapacity : Obligations.StepKeepsAccessesInsideCapacity := by
  unfold Obligations.StepKeepsAccessesInsideCapacity
  intro s t hcap hs h
  refine ⟨?_, step_progressLegal hs h⟩
  obtain ⟨u, rfl⟩ | hcfg := step_cfg h
  · exact (externalReset_memories u).2
  obtain ⟨u, rfl⟩ | hstored := step_stored (fun _ _ => id) (fun _ _ => turnArea_lt hs) h
  · exact (externalReset_memories u).2
  · exact hstored.withinCapacity hcfg hcap

end Sys2Proof.Machine
end

section
/-! SUPPORT. The host's loads of bytes and of palette entries (20_memory.md R60, R63, R78; 43_rle.md R422), and the instructions
that are refused where they stand (93_implementation_defined.md U12; log 11, 12). -/

namespace Sys2Proof.Machine

/-! ## Loads and reads of bytes (20_memory.md R60, R78) -/

theorem byteAt_eq (s : State) (sp : Space) (a : Nat) :
    s.byteAt sp a = ((s.memOf sp).read a).getD (Config.unwrittenByte sp a s.resets) := rfl

theorem withMem_resets (s : State) (sp : Space) (m : Memory) : (s.withMem sp m).resets = s.resets := by cases sp <;> rfl

theorem withMem_run (s : State) (sp : Space) (m : Memory) : (s.withMem sp m).run = s.run := by cases sp <;> rfl

theorem withMem_host (s : State) (sp : Space) (m : Memory) : (s.withMem sp m).host = s.host := by cases sp <;> rfl

theorem withMem_cfg (s : State) (sp : Space) (m : Memory) : (s.withMem sp m).cfg = s.cfg := by cases sp <;> rfl

/-- A byte written is what is read at its address, and every other byte is as before. -/
theorem byteAt_withMem_write (s : State) (sp : Space) (a : Nat) (b : Byte) (sp' : Space) (a' : Nat) :
    (s.withMem sp ((s.memOf sp).write a b)).byteAt sp' a' = if sp' = sp ∧ a' = a then b else s.byteAt sp' a' := by
  rw [byteAt_eq, withMem_resets]
  by_cases hsp : sp' = sp
  · subst hsp
    rw [memOf_withMem_same, Memory.read_write]
    by_cases ha : a' = a
    · rw [if_pos ha, if_pos ⟨rfl, ha⟩]; rfl
    · rw [if_neg ha, if_neg fun h => ha h.2]; rfl
  · rw [memOf_withMem_other hsp, if_neg fun h => hsp h.1]; rfl

theorem step_load {s : State} {rest : List HostAction} {sp : Space} {a : Nat} {b : Byte} (hr : s.run = .idle)
    (hpal : sp ≠ .pal) (ha : a < spaceSize s.cfg sp) (hh : s.host = .load sp a b :: rest) :
    step s = .next (State.withMem { s with host := rest } sp ((s.memOf sp).write a b)) := by
  have hmem : State.memOf { s with host := rest } sp = s.memOf sp := by cases sp <;> rfl
  rw [step, fetch_host hr hh, hostAccess_load hpal, if_pos ha, hmem]

theorem step_read {s : State} {rest : List HostAction} {sp : Space} {a : Nat} (hr : s.run = .idle) (hin : sp ≠ .input)
    (hpal : sp ≠ .pal) (ha : a < spaceSize s.cfg sp) (hh : s.host = .read sp a :: rest) :
    step s = .next { s with host := rest, hostData := (s.byteAt sp a).setWidth 32 } := by
  have hbyte : State.byteAt { s with host := rest } sp a = s.byteAt sp a := by cases sp <;> rfl
  rw [step, fetch_host hr hh, hostAccess_read hin hpal, if_pos ha, hbyte]

/-- Settles O16: the load is one write, and the read finds what was written. -/
theorem loadedByteIsReadBackAndNoOtherChanges : Obligations.LoadedByteIsReadBackAndNoOtherChanges := by
  unfold Obligations.LoadedByteIsReadBackAndNoOtherChanges
  intro s rest sp a b hr hpal ha hh
  have hmem : State.memOf { s with host := rest } sp = s.memOf sp := by cases sp <;> rfl
  have hbytes := byteAt_withMem_write { s with host := rest } sp a b
  rw [hmem] at hbytes
  refine ⟨_, step_load hr hpal ha hh, ?_, fun sp' a' => (hbytes sp' a').trans ?_, fun rest' hin hrest => ?_⟩
  · cases sp with
    | pal => exact absurd rfl hpal
    | input | lb | mb | fb => rfl
  · cases sp' <;> rfl
  · have hread := step_read (s := State.withMem { s with host := rest } sp ((s.memOf sp).write a b))
      ((withMem_run _ _ _).trans hr) hin hpal (by rw [withMem_cfg]; exact ha) ((withMem_host _ _ _).trans hrest)
    rw [hread, hbytes, if_pos ⟨rfl, rfl⟩]

/-! ## The palette (20_memory.md R63; 43_rle.md R422) -/

/-- An entry loaded writes its own three bytes. -/
theorem byteAt_loadPalette (s : State) (i r g b : Byte) (a : Nat) :
    (loadPalette s i r g b).byteAt .pal a =
      if 3 * i.toNat ≤ a ∧ a < 3 * i.toNat + 3 then [r, g, b].getD (a - 3 * i.toNat) 0 else s.byteAt .pal a := by
  have hpal : (loadPalette s i r g b).memOf .pal = s.pal.writeBytes (3 * i.toNat) [r, g, b] := rfl
  rw [byteAt_eq, hpal, Memory.read_writeBytes]
  split
  · rename_i h
    have hlen : a - 3 * i.toNat < [r, g, b].length := by simp only [List.length_cons, List.length_nil] at h ⊢; omega
    rw [if_pos (by simpa using h), List.getD_eq_getElem?_getD, List.getElem?_eq_getElem hlen]
    rfl
  · rename_i h
    rw [if_neg (by simpa using h)]; rfl

theorem byteAt_loadPalette_same (s : State) (i r g b : Byte) {c : Nat} (hc : c < 3) :
    (loadPalette s i r g b).byteAt .pal (palAddr i.toNat c) = [r, g, b].getD c 0 := by
  rw [byteAt_loadPalette, palAddr, if_pos (by omega), Nat.add_sub_cancel_left]

theorem byteAt_loadPalette_other {i j : Byte} (h : j ≠ i) (s : State) (r g b : Byte) {c : Nat} (hc : c < 3) :
    (loadPalette s i r g b).byteAt .pal (palAddr j.toNat c) = s.byteAt .pal (palAddr j.toNat c) := by
  have hne : j.toNat ≠ i.toNat := fun e => h (BitVec.eq_of_toNat_eq e)
  rw [byteAt_loadPalette, palAddr, if_neg (by omega)]

theorem palette_loadPalette_same (s : State) (i r g b : Byte) :
    palette (loadPalette s i r g b) i =
      if i.toNat < s.palCount.toNat then { r := r, g := g, b := b, a := 255 } else opaqueBlack := by
  rw [palette, byteAt_loadPalette_same s i r g b (c := 0) (by omega), byteAt_loadPalette_same s i r g b (c := 1) (by omega),
    byteAt_loadPalette_same s i r g b (c := 2) (by omega)]
  rfl

theorem palette_loadPalette_other {i j : Byte} (h : j ≠ i) (s : State) (r g b : Byte) :
    palette (loadPalette s i r g b) j = palette s j := by
  rw [palette, byteAt_loadPalette_other h s r g b (c := 0) (by omega), byteAt_loadPalette_other h s r g b (c := 1) (by omega),
    byteAt_loadPalette_other h s r g b (c := 2) (by omega)]
  rfl

/-- Settles O17: the entry's three bytes are its colour, and no other entry shares one. -/
theorem loadedPaletteEntryIsWhatLookupGives : Obligations.LoadedPaletteEntryIsWhatLookupGives := by
  unfold Obligations.LoadedPaletteEntryIsWhatLookupGives
  intro s rest i r g b hr hh
  have hstep : step s = .next (loadPalette { s with host := rest } i r g b) := by rw [step, fetch_host hr hh]; rfl
  exact ⟨_, hstep, rfl, palette_loadPalette_same _ i r g b, fun j hj => palette_loadPalette_other hj _ r g b⟩

/-! ## The classes of tokens -/

/-- What a token's meaning is, by the class of its code. -/
inductive TokenClass (i : Instr) : Prop
  /-- A terminal code (40_g3_huffman.md R144). -/
  | terminal (c : Color) (len n : Nat) (hbits : (encode i).isBits = true) (hctx : ∀ m, i.contexts ≠ [.rle m])
    (h : ∀ s, exec i s = terminalCode c len n s)
  /-- A make-up code of one colour (R145). -/
  | makeup (c : Color) (len n : Nat) (hbits : (encode i).isBits = true) (hctx : ∀ m, i.contexts ≠ [.rle m])
    (h : ∀ s, exec i s = makeupCode c len n s)
  /-- A make-up code of both colours (R146). -/
  | shared (len n : Nat) (hbits : (encode i).isBits = true) (hctx : ∀ m, i.contexts ≠ [.rle m])
    (h : ∀ s, exec i s = sharedCode len n s)
  /-- EOL (R147). -/
  | eol (hbits : (encode i).isBits = true) (hctx : ∀ m, i.contexts ≠ [.rle m]) (h : ∀ s, exec i s = eolCode s)
  /-- A stream command of one mode (43_rle.md R425 to R427, R431 to R433). -/
  | ofMode (m : RleMode) (k : State → State) (hbits : (encode i).isBits = false) (hctx : i.contexts = [.rle m])
    (h : ∀ s, exec i s = inRleMode m s k)
  /-- A stream command of every mode (43_rle.md R428 to R430). -/
  | ofEveryMode (k : State → State) (hbits : (encode i).isBits = false) (hctx : ∀ m, i.contexts ≠ [.rle m])
    (h : ∀ s, exec i s = inRle s k)

theorem tokenClass {i : Instr} (hi : i.isCommand = false) : TokenClass i := by
  cases i with
  | nop | g3Reset | g3Line | rleDecode | cmeNew | cmeExtract | cmeRgba | fxcDec | fxcEnc | icnUnpack1 | icnMono
  | icnAlpha => cases hi
  | wt0 | wt1 | wt2 | wt3 | wt4 | wt5 | wt6 | wt7 | wt8 | wt9 | wt10 | wt11 | wt12 | wt13 | wt14 | wt15 | wt16 | wt17
  | wt18 | wt19 | wt20 | wt21 | wt22 | wt23 | wt24 | wt25 | wt26 | wt27 | wt28 | wt29 | wt30 | wt31 | wt32 | wt33 | wt34
  | wt35 | wt36 | wt37 | wt38 | wt39 | wt40 | wt41 | wt42 | wt43 | wt44 | wt45 | wt46 | wt47 | wt48 | wt49 | wt50 | wt51
  | wt52 | wt53 | wt54 | wt55 | wt56 | wt57 | wt58 | wt59 | wt60 | wt61 | wt62 | wt63 =>
    exact .terminal _ _ _ rfl nofun fun _ => rfl
  | bt0 | bt1 | bt2 | bt3 | bt4 | bt5 | bt6 | bt7 | bt8 | bt9 | bt10 | bt11 | bt12 | bt13 | bt14 | bt15 | bt16 | bt17
  | bt18 | bt19 | bt20 | bt21 | bt22 | bt23 | bt24 | bt25 | bt26 | bt27 | bt28 | bt29 | bt30 | bt31 | bt32 | bt33 | bt34
  | bt35 | bt36 | bt37 | bt38 | bt39 | bt40 | bt41 | bt42 | bt43 | bt44 | bt45 | bt46 | bt47 | bt48 | bt49 | bt50 | bt51
  | bt52 | bt53 | bt54 | bt55 | bt56 | bt57 | bt58 | bt59 | bt60 | bt61 | bt62 | bt63 =>
    exact .terminal _ _ _ rfl nofun fun _ => rfl
  | wm64 | wm128 | wm192 | wm256 | wm320 | wm384 | wm448 | wm512 | wm576 | wm640 | wm704 | wm768 | wm832 | wm896 | wm960
  | wm1024 | wm1088 | wm1152 | wm1216 | wm1280 | wm1344 | wm1408 | wm1472 | wm1536 | wm1600 | wm1664 | wm1728 =>
    exact .makeup _ _ _ rfl nofun fun _ => rfl
  | bm64 | bm128 | bm192 | bm256 | bm320 | bm384 | bm448 | bm512 | bm576 | bm640 | bm704 | bm768 | bm832 | bm896 | bm960
  | bm1024 | bm1088 | bm1152 | bm1216 | bm1280 | bm1344 | bm1408 | bm1472 | bm1536 | bm1600 | bm1664 | bm1728 =>
    exact .makeup _ _ _ rfl nofun fun _ => rfl
  | xm1792 | xm1856 | xm1920 | xm1984 | xm2048 | xm2112 | xm2176 | xm2240 | xm2304 | xm2368 | xm2432 | xm2496 | xm2560 =>
    exact .shared _ _ rfl nofun fun _ => rfl
  | eol => exact .eol rfl nofun fun _ => rfl
  | runRle8 | runRle4 | runRle24 | absRle8 | absRle4 | absRle24 => exact .ofMode _ _ rfl rfl fun _ => rfl
  | rleEol | eob | delta => exact .ofEveryMode _ rfl nofun fun _ => rfl

/-! ## Refusals (93_implementation_defined.md U12; log 11, 12) -/

theorem whenIdle_busy {s : State} (h : s.run ≠ .idle) (k : State → State) : whenIdle s k = .refused .busy := by
  unfold whenIdle
  split
  · exact absurd ‹_› h
  · rfl
  · rfl

theorem exec_command_busy {i : Instr} {s : State} (hi : i.isCommand = true) (h : s.run ≠ .idle) :
    exec i s = .refused .busy := by
  unfold exec
  cases i, hi using Instr.command_cases with
  | nop | g3Reset | cmeNew | cmeExtract | cmeRgba | fxcDec | fxcEnc | icnUnpack1 | icnMono | icnAlpha =>
    exact whenIdle_busy h _
  | g3Line =>
    unfold execG3Line
    cases hr : s.run with
    | idle => exact absurd hr h
    | g3 | rle => rfl
  | rleDecode =>
    unfold execRleDecode
    cases hr : s.run with
    | idle => exact absurd hr h
    | g3 | rle => rfl

section
variable {i : Instr} {s : State}

/-- No token has a meaning with no command in progress. -/
theorem exec_token_idle (hi : i.isCommand = false) (hr : s.run = .idle) : exec i s = .refused .outsideCommand := by
  cases tokenClass hi with
  | terminal c len n _ _ h => rw [h, terminalCode, hr]
  | makeup c len n _ _ h => rw [h, makeupCode, hr]
  | shared len n _ _ h => rw [h, sharedCode, hr]
  | eol _ _ h => rw [h, eolCode, hr]
  | ofMode m k _ _ h => rw [h, inRleMode, hr]
  | ofEveryMode k _ _ h => rw [h, inRle, hr]

/-- No stream command of the RLE engine has a meaning inside a line. -/
theorem exec_rleToken_in_line {r : G3Run} (hbits : (encode i).isBits = false) (hi : i.isCommand = false)
    (hr : s.run = .g3 r) : exec i s = .refused .outsideCommand := by
  cases tokenClass hi with
  | terminal _ _ _ h | makeup _ _ _ h | shared _ _ h | eol h => cases hbits.symm.trans h
  | ofMode m k _ _ h => rw [h, inRleMode, hr]
  | ofEveryMode k _ _ h => rw [h, inRle, hr]

theorem isCommand_of_isBits (hbits : (encode i).isBits = true) : i.isCommand = false := by
  unfold Instr.isCommand
  split
  · rename_i h; rw [h] at hbits; cases hbits
  · rfl
  · rfl

/-- No code word has a meaning inside a decode. -/
theorem exec_codeWord_in_decode (hbits : (encode i).isBits = true) (hr : s.run = .rle) :
    exec i s = .refused .outsideCommand := by
  cases tokenClass (isCommand_of_isBits hbits) with
  | terminal c len n _ _ h => rw [h, terminalCode, hr]
  | makeup c len n _ _ h => rw [h, makeupCode, hr]
  | shared len n _ _ h => rw [h, sharedCode, hr]
  | eol _ _ h => rw [h, eolCode, hr]
  | ofMode m k h | ofEveryMode k h => cases h.symm.trans hbits

/-- A stream command has a meaning in its own mode alone (30_encoding.md R100). -/
theorem exec_rleToken_of_other_mode {m : RleMode} (hr : s.run = .rle) (hctx : i.contexts = [.rle m])
    (hm : s.rleMode ≠ some m) : exec i s = .refused .notRecognisedHere := by
  have hi : i.isCommand = false := by
    cases h : i.isCommand with
    | false => rfl
    | true => cases i, h using Instr.command_cases <;> cases hctx
  cases tokenClass hi with
  | terminal _ _ _ _ h | makeup _ _ _ _ h | shared _ _ _ h | eol _ h | ofEveryMode _ _ h => exact absurd hctx (h m)
  | ofMode m' k _ h hexec =>
    obtain rfl : m' = m := by rw [h] at hctx; cases hctx; rfl
    rw [hexec, inRleMode, hr]
    exact if_neg hm

theorem terminalCode_of_other_color {c : Color} {r : G3Run} (hr : s.run = .g3 r) (hc : r.color ≠ c) (len n : Nat) :
    terminalCode c len n s = .refused .notRecognisedHere := by
  rw [terminalCode, hr]
  exact if_neg hc

theorem makeupCode_of_other_color {c : Color} {r : G3Run} (hr : s.run = .g3 r) (hc : r.color ≠ c) (len n : Nat) :
    makeupCode c len n s = .refused .notRecognisedHere := by
  rw [makeupCode, hr]
  exact if_neg hc

/-- A code word of the black table alone has no meaning in a white run (30_encoding.md R94). -/
theorem exec_black_in_white {r : G3Run} (hr : s.run = .g3 r) (hc : r.color = .white)
    (hrow : ∃ row ∈ blackTerminal ++ blackMakeup, row.instr = i) : exec i s = .refused .notRecognisedHere := by
  have hne : r.color ≠ .black := by rw [hc]; exact Color.noConfusion
  obtain ⟨row, hmem, rfl⟩ := hrow
  have hi : row.instr.isCommand = false := token_of_row .black row (List.mem_append_left _ hmem)
  rw [← execToken_eq_exec hi]
  obtain h | h := List.mem_append.1 hmem
  · rw [execToken_blackTerminal row h]; exact terminalCode_of_other_color hr hne _ _
  · rw [execToken_blackMakeup row h]; exact makeupCode_of_other_color hr hne _ _

/-- A code word of the white table alone has no meaning in a black run (30_encoding.md R94). -/
theorem exec_white_in_black {r : G3Run} (hr : s.run = .g3 r) (hc : r.color = .black)
    (hrow : ∃ row ∈ whiteTerminal ++ whiteMakeup, row.instr = i) : exec i s = .refused .notRecognisedHere := by
  have hne : r.color ≠ .white := by rw [hc]; exact Color.noConfusion
  obtain ⟨row, hmem, rfl⟩ := hrow
  have hi : row.instr.isCommand = false := token_of_row .white row (List.mem_append_left _ hmem)
  rw [← execToken_eq_exec hi]
  obtain h | h := List.mem_append.1 hmem
  · rw [execToken_whiteTerminal row h]; exact terminalCode_of_other_color hr hne _ _
  · rw [execToken_whiteMakeup row h]; exact makeupCode_of_other_color hr hne _ _

/-- EOL is tested for at the start of a run alone (40_g3_huffman.md R147). -/
theorem exec_eol_midRun {r : G3Run} (hr : s.run = .g3 r) (hm : r.midRun = true) :
    exec .eol s = .refused .notRecognisedHere := by
  rw [show exec .eol s = eolCode s from rfl, eolCode, hr]
  exact if_pos hm

end

/-- Settles O24, clause by clause. -/
theorem instructionsOutOfPlaceAreRefused : Obligations.InstructionsOutOfPlaceAreRefused := fun _ _ =>
  ⟨exec_command_busy, exec_token_idle, fun _ => exec_rleToken_in_line, exec_codeWord_in_decode, fun _ => exec_black_in_white,
    fun _ => exec_white_in_black, fun _ hr hm hi => hi ▸ exec_eol_midRun hr hm, fun _ => exec_rleToken_of_other_mode⟩

end Sys2Proof.Machine
end

section
/-! SUPPORT. The mask image that `ICN.UNPACK1` writes, pixel by pixel in file order (46_icon_mask.md R501; 30_encoding.md R105). -/

namespace Sys2Proof.Machine

/-- What holds before a loop's first turn and is carried over each of its turns holds after the loop. -/
theorem forUpTo_induct {α : Type} (P : Nat → α → Prop) (f : Nat → α → α) {n : Nat} {x : α} (h0 : P 0 x)
    (hstep : ∀ k, k < n → ∀ y, P k y → P (k + 1) (f k y)) : P n (forUpTo n f x) := by
  induction n with
  | zero => exact h0
  | succ n ih => exact hstep n (Nat.lt_succ_self n) _ (ih fun k hk => hstep k (Nat.lt_succ_of_lt hk))

/-! ## Pixels of a frame do not overlap (20_memory.md R67) -/

theorem pixelAddr_disjoint {w x x' r r' : Nat} (hx : x < w) (hx' : x' < w) (h : ¬(x' = x ∧ r' = r)) :
    pixelAddr w x' r' + 4 ≤ pixelAddr w x r ∨ pixelAddr w x r + 4 ≤ pixelAddr w x' r' := by
  have hne : r * w + x ≠ r' * w + x' := by
    intro e
    have hrow : ∀ q y, y < w → (q * w + y) / w = q := fun q y hy => by
      rw [Nat.mul_comm, Nat.mul_add_div (by omega), Nat.div_eq_of_lt hy, Nat.add_zero]
    have hr : r' = r := by rw [← hrow r x hx, e, hrow r' x' hx']
    subst hr
    exact h ⟨by omega, rfl⟩
  unfold pixelAddr
  omega

theorem destY_injective {b : Bool} {h y y' : Nat} (hy : y < h) (hy' : y' < h) (e : destY b h y' = destY b h y) : y' = y := by
  unfold destY at e
  split at e <;> omega

/-! ## The mask image (R501) -/

/-- Where the pixel in column `x` of file row `y` goes in `MB`. -/
def maskAddr (s : State) (x y : Nat) : Nat := pixelAddr s.icnMw.toNat x (destY s.icnBottomUp s.icnMh.toNat y)

/-- The pixel in column `x` of file row `y`: the palette entry of its bit in the stream. -/
def maskPixel (s : State) (x y : Nat) : Pixel :=
  palette s (bitIndex (streamByte s (y * icnStride s.icnMw.toNat + x / 8)) (x % 8))

/-- `t` is `s` with `n` bytes fetched and the pixels of the rows before `y` and of the columns before `x` of row `y` written,
and nothing beyond the image. -/
structure Unpacked (s : State) (y x n : Nat) (t : State) : Prop where
  frame : t = { advance n s with mb := t.mb }
  written : ∀ x' y' c, x' < s.icnMw.toNat → y' < s.icnMh.toNat → c < 4 → y' < y ∨ y' = y ∧ x' < x →
    t.byteAt .mb (maskAddr s x' y' + c) = (maskPixel s x' y').bytes.getD c 0
  beyond : ∀ a, 4 * s.icnMw.toNat * s.icnMh.toNat ≤ a → t.byteAt .mb a = s.byteAt .mb a

theorem unpacked_start (s : State) : Unpacked s 0 0 0 s :=
  ⟨by rw [advance_zero], fun _ _ _ _ _ _ h => by omega, fun _ _ => rfl⟩

/-- Writing a pixel into `MB`. -/
def putMask (addr : Nat) (p : Pixel) (t : State) : State := { t with mb := t.mb.writePixel addr p }

theorem byteAt_putMask (addr : Nat) (p : Pixel) (t : State) (a : Nat) :
    (putMask addr p t).byteAt .mb a =
      if addr ≤ a ∧ a < addr + 4 then p.bytes.getD (a - addr) 0 else t.byteAt .mb a := by
  have hread : (putMask addr p t).byteAt .mb a =
      ((t.mb.writePixel addr p).read a).getD (Config.unwrittenByte .mb a t.resets) := rfl
  rw [hread, Memory.read_writePixel]
  split
  · rename_i ha
    have hlen : a - addr < p.bytes.length := by simp only [Pixel.bytes, List.length_cons, List.length_nil]; omega
    rw [List.getD_eq_getElem?_getD, List.getElem?_eq_getElem hlen]
    rfl
  · rfl

theorem Unpacked.putMask {s t : State} {y x n : Nat} (h : Unpacked s y x n t) (hx : x < s.icnMw.toNat)
    (hy : y < s.icnMh.toNat) : Unpacked s y (x + 1) n (putMask (maskAddr s x y) (maskPixel s x y) t) := by
  have hrow := destY_lt (b := s.icnBottomUp) hy
  refine ⟨by rw [Machine.putMask, h.frame], fun x' y' c hx' hy' hc hdone => ?_, fun a ha => ?_⟩
  · rw [byteAt_putMask]
    by_cases hsame : x' = x ∧ y' = y
    · obtain ⟨rfl, rfl⟩ := hsame
      rw [if_pos (by omega), Nat.add_sub_cancel_left]
    · have hother : ¬(x' = x ∧ destY s.icnBottomUp s.icnMh.toNat y' = destY s.icnBottomUp s.icnMh.toNat y) :=
        fun e => hsame ⟨e.1, destY_injective hy hy' e.2⟩
      have hapart := pixelAddr_disjoint hx hx' hother
      rw [if_neg (by unfold maskAddr; omega)]
      exact h.written x' y' c hx' hy' hc (by omega)
  · have hlt := pixelAddr_lt hx hrow
    rw [← maskAddr] at hlt
    rw [byteAt_putMask, if_neg (by omega)]
    exact h.beyond a ha

/-- The eight pixels of byte `k` of a row, those at or beyond the width ignored. -/
theorem Unpacked.byte {s t : State} {y k n : Nat} (h : Unpacked s y (8 * k) n t) (hy : y < s.icnMh.toNat) :
    Unpacked s y (8 * (k + 1)) n
      (unpackByte (destY s.icnBottomUp s.icnMh.toNat y) k (streamByte s (y * icnStride s.icnMw.toNat + k)) t) := by
  refine forUpTo_induct (fun j u => Unpacked s y (8 * k + j) n u) _ h fun j hj u hu => ?_
  have hw : u.icnMw = s.icnMw := by rw [hu.frame]; rfl
  have hpal : palette u = palette s := by rw [hu.frame]; rfl
  have hdiv : (8 * k + j) / 8 = k := by omega
  have hmod : (8 * k + j) % 8 = j := by omega
  have hpixel : maskPixel s (8 * k + j) y =
      palette u (bitIndex (streamByte s (y * icnStride s.icnMw.toNat + k)) j) := by rw [maskPixel, hdiv, hmod, hpal]
  split
  · rename_i hx
    rw [hw] at hx
    have haddr : maskAddr s (8 * k + j) y =
        pixelAddr u.icnMw.toNat (8 * k + j) (destY s.icnBottomUp s.icnMh.toNat y) := by rw [hw]; rfl
    have hnext := hu.putMask hx hy
    rw [haddr, hpixel] at hnext
    exact hnext
  · rename_i hx
    rw [hw] at hx
    exact ⟨hu.frame, fun x' y' c hx' hy' hc hdone => hu.written x' y' c hx' hy' hc (by omega), hu.beyond⟩

/-- Byte `k` of a row is fetched and its pixels are written. -/
theorem Unpacked.step {s t : State} {y k : Nat} (h : Unpacked s y (8 * k) (y * icnStride s.icnMw.toNat + k) t)
    (hy : y < s.icnMh.toNat) (hbytes : y * icnStride s.icnMw.toNat + k < bytesToEnd s) :
    Unpacked s y (8 * (k + 1)) (y * icnStride s.icnMw.toNat + k + 1)
      (unpackStep (destY s.icnBottomUp s.icnMh.toNat y) k t) := by
  have hfetch : fetchByte t = some (streamByte s (y * icnStride s.icnMw.toNat + k), advance 1 t) := by
    have hleft : bytesToEnd t = bytesToEnd (advance (y * icnStride s.icnMw.toNat + k) s) := by rw [h.frame]; rfl
    have hbyte : streamByte t 0 = streamByte (advance (y * icnStride s.icnMw.toNat + k) s) 0 := by rw [h.frame]; rfl
    rw [bytesToEnd_advance (by omega)] at hleft
    rw [fetchByte_first (by omega), hbyte, streamByte_advance]
    rfl
  have hnext : Unpacked s y (8 * k) (y * icnStride s.icnMw.toNat + k + 1) (advance 1 t) := by
    refine ⟨?_, h.written, h.beyond⟩
    rw [← advance_advance]
    exact congrArg (advance 1) h.frame
  rw [unpackStep, hfetch]
  exact hnext.byte hy

theorem Unpacked.row {s t : State} {y : Nat} (h : Unpacked s y 0 (y * icnStride s.icnMw.toNat) t) (hy : y < s.icnMh.toNat)
    (hbytes : (y + 1) * icnStride s.icnMw.toNat ≤ bytesToEnd s) :
    Unpacked s (y + 1) 0 ((y + 1) * icnStride s.icnMw.toNat) (unpackRow y t) := by
  have hsame : t.icnMw = s.icnMw ∧ t.icnMh = s.icnMh ∧ t.icnBottomUp = s.icnBottomUp := by
    rw [h.frame]; exact ⟨rfl, rfl, rfl⟩
  obtain ⟨hw, hh, hb⟩ := hsame
  have hmul : (y + 1) * icnStride s.icnMw.toNat = y * icnStride s.icnMw.toNat + icnStride s.icnMw.toNat := by
    rw [Nat.add_mul, Nat.one_mul]
  rw [hmul] at hbytes ⊢
  have hrow : Unpacked s y (8 * icnStride s.icnMw.toNat) (y * icnStride s.icnMw.toNat + icnStride s.icnMw.toNat)
      (unpackRow y t) := by
    rw [unpackRow, hw, hh, hb]
    exact forUpTo_induct (fun k u => Unpacked s y (8 * k) (y * icnStride s.icnMw.toNat + k) u) _ h
      fun k hk u hu => hu.step hy (by omega)
  refine ⟨hrow.frame, fun x' y' c hx' hy' hc hdone => hrow.written x' y' c hx' hy' hc ?_, hrow.beyond⟩
  have hwide : s.icnMw.toNat ≤ 8 * icnStride s.icnMw.toNat := by unfold icnStride; omega
  omega

theorem unpackImage_unpacked {s : State} (h : s.icnMh.toNat * icnStride s.icnMw.toNat ≤ bytesToEnd s) :
    Unpacked s s.icnMh.toNat 0 (s.icnMh.toNat * icnStride s.icnMw.toNat) (unpackImage s) := by
  have hstart : Unpacked s 0 0 (0 * icnStride s.icnMw.toNat) s := by rw [Nat.zero_mul]; exact unpacked_start s
  exact forUpTo_induct (fun y u => Unpacked s y 0 (y * icnStride s.icnMw.toNat) u) unpackRow hstart
    fun y hy u hu => hu.row hy (Nat.le_trans (Nat.mul_le_mul_right _ hy) h)

/-- The pixel of a bit of the stream, with the stream's bytes by their addresses. -/
theorem maskPixel_eq {s : State} {x y : Nat} (hpos : s.inPos.toNat ≤ s.inLen.toNat)
    (h : y * icnStride s.icnMw.toNat + x / 8 < bytesToEnd s) :
    maskPixel s x y =
      palette s
        (if (s.byteAt .input (s.inPos.toNat + y * icnStride s.icnMw.toNat + x / 8)).getLsbD (7 - x % 8) then 1 else 0) := by
  rw [maskPixel, streamByte_of_lt hpos h, ← Nat.add_assoc]
  rfl

theorem maskAddr_eq (s : State) (x y : Nat) :
    maskAddr s x y =
      4 * ((if s.icnCtrl.getLsbD 0 then s.icnMh.toNat - 1 - y else y) * s.icnMw.toNat + x) := by
  rw [maskAddr, pixelAddr, destY_icn, Nat.mul_comm]

/-- Settles O46: row by row, byte by byte and bit by bit, the image is `Unpacked`. -/
theorem icnUnpackWritesEveryPixelOfTheMask : Obligations.IcnUnpackWritesEveryPixelOfTheMask := by
  unfold Obligations.IcnUnpackWritesEveryPixelOfTheMask
  intro s hr hp hlen
  obtain ⟨-, -, -, hstream⟩ := (unpackParamsOk_iff s).1 hp
  have hpos := ((streamOk_iff s).1 hstream).1
  have hstride : ((s.icnMw.toNat + 7) / 8 + 3) / 4 * 4 = icnStride s.icnMw.toNat := rfl
  rw [hstride] at hlen ⊢
  have hshort : shortInput s = false := decide_eq_false (by omega)
  rw [Nat.mul_comm, ← bytesToEnd_of_le hpos] at hlen
  obtain ⟨hframe, hwritten, hbeyond⟩ := unpackImage_unpacked hlen
  refine ⟨halt .ok {} (unpackImage s), ?_, ?_, fun x y c hx hy hc => ?_, hbeyond⟩
  · rw [exec_icnUnpack1 hr, if_neg (by simp [hp]), if_neg (by simp [hshort])]
  · rw [hframe, ← advance_inPos, Nat.mul_comm, halt, ← hr]
    rfl
  · have hrow : (y + 1) * icnStride s.icnMw.toNat ≤ bytesToEnd s := Nat.le_trans (Nat.mul_le_mul_right _ hy) hlen
    have hmul : (y + 1) * icnStride s.icnMw.toNat = y * icnStride s.icnMw.toNat + icnStride s.icnMw.toNat := by
      rw [Nat.add_mul, Nat.one_mul]
    have hbyte : x / 8 < icnStride s.icnMw.toNat := by unfold icnStride; omega
    rw [← maskAddr_eq, ← maskPixel_eq hpos (by omega)]
    exact hwritten x y c hx hy hc (.inl hy)

end Sys2Proof.Machine
end

section
/-! SUPPORT. The code words as the decoder reads them: the printed bits of a row lead to its leaf, whatever follows them in the
buffer, and none of them begins like an EOL (30_encoding.md R94 to R98; 40_g3_huffman.md R134 to R138, R155). -/

namespace Sys2Proof

open Sys2Proof.Machine

/-! ## Walks by lists of bits (40_g3_huffman.md R138) -/

/-- The part of a tree that the given bits lead to. -/
def Tree.follow : List Bool → Tree → Tree
  | [], t => t
  | _ :: _, .absent => .absent
  | _ :: _, .leaf _ => .absent
  | b :: bs, .node l r => Tree.follow bs (if b then r else l)

/-- Bits that lead to a leaf and stand at place `i` of the buffer are walked to their end. -/
theorem walk_of_follow {bs : List Bool} {t : Tree} {ins : Instr} {buf : Word} {bits i : Nat}
    (hleaf : t.follow bs = .leaf ins) (hbits : i + bs.length ≤ bits)
    (hbuf : ∀ k (h : k < bs.length), peek buf (i + k) = bs[k]) : walk t buf bits i = .ok (ins, i + bs.length) := by
  induction bs generalizing t i with
  | nil =>
    rw [Tree.follow] at hleaf
    rw [hleaf, walk]; rfl
  | cons b bs ih =>
    rw [List.length_cons] at hbits ⊢
    cases t with
    | absent => cases hleaf
    | leaf ins => cases hleaf
    | node l r =>
      have hhead : peek buf i = b := hbuf 0 (Nat.succ_pos _)
      have htail : ∀ k (h : k < bs.length), peek buf (i + 1 + k) = bs[k] := fun k h => by
        rw [Nat.add_assoc, Nat.add_comm 1]; exact hbuf (k + 1) (Nat.succ_lt_succ h)
      have hstep : walk (if b then r else l) buf bits (i + 1) = .ok (ins, i + 1 + bs.length) :=
        ih hleaf (by omega) htail
      rw [walk, if_neg (by omega), hhead, Nat.add_comm bs.length, ← Nat.add_assoc]
      cases b <;> exact hstep

theorem bufferBits_length (buf : Word) (n : Nat) : (bufferBits buf n).length = n := by simp [bufferBits]

theorem peek_of_prefix {bs : List Bool} {buf : Word} {bits : Nat} (h : bs <+: bufferBits buf bits) (k : Nat)
    (hk : k < bs.length) : peek buf k = bs[k] := by
  rw [h.getElem hk]; simp [bufferBits]

theorem length_le_of_prefix {bs : List Bool} {buf : Word} {bits : Nat} (h : bs <+: bufferBits buf bits) :
    bs.length ≤ bits := by
  simpa [bufferBits_length] using h.length_le

/-! ## The tables (40_g3_huffman.md R150 to R155) -/

theorem codeBits_length (len value : Nat) : (codeBits len value).length = len := by simp [codeBits]

/-- The bits of a row lead to its leaf (R137). -/
theorem follow_row : ∀ c : Color, ∀ r ∈ treeRows c, (treeOf c).follow (codeBits r.len r.value) = .leaf r.instr := by
  intro c
  cases c <;> decide +kernel

/-- The bits that the tables print are those of the row's number and length. -/
theorem encode_row : ∀ c : Color, ∀ r ∈ treeRows c, encode r.instr = .bits (codeBits r.len r.value) := by
  intro c
  cases c <;> decide +kernel

/-- No code word begins with the eleven zeros of an EOL (R155). -/
theorem row_unlike_eol : ∀ c : Color, ∀ r ∈ treeRows c, true ∈ (codeBits r.len r.value).take 11 := by
  intro c
  cases c <;> decide +kernel

/-! ## EOL (30_encoding.md R96; 40_g3_huffman.md R135) -/

/-- The bits of `EOL`. -/
def eolBits : List Bool := List.replicate 11 false ++ [true]

theorem eolBits_length : eolBits.length = 12 := rfl

theorem encode_eol : encode .eol = .bits eolBits := rfl

/-- The buffer is at an EOL exactly when its bits begin with those of `EOL`. -/
theorem atEol_iff {buf : Word} {bits : Nat} : atEol buf bits = true ↔ eolBits <+: bufferBits buf bits := by
  have hpeek : ∀ k, k < 12 → peek buf k = (buf.extractLsb' 20 12).getLsbD (11 - k) := fun k hk => by
    have hplace : 31 - k = 20 + (11 - k) := by omega
    have hin : 11 - k < 12 := by omega
    simp [peek, hplace, hin]
  have hpattern : ∀ k (h : k < eolBits.length), (0x001#12).getLsbD (11 - k) = eolBits[k] := by decide
  rw [atEol, Bool.and_eq_true, decide_eq_true_iff, beq_iff_eq]
  constructor
  · rintro ⟨hbits, htop⟩
    have hlen : eolBits.length ≤ (bufferBits buf bits).length := by rw [bufferBits_length]; exact hbits
    refine List.prefix_iff_getElem.2 ⟨hlen, fun k hk => ?_⟩
    rw [← hpattern k hk, ← htop, ← hpeek k hk]
    simp [bufferBits]
  · intro h
    refine ⟨length_le_of_prefix h, BitVec.eq_of_getLsbD_eq fun j hj => ?_⟩
    have hk : 11 - j < 12 := by omega
    have hj' : 11 - (11 - j) = j := by omega
    have htop := hpeek (11 - j) hk
    have hpat := hpattern (11 - j) hk
    rw [peek_of_prefix h (11 - j) hk] at htop
    rw [hj'] at htop hpat
    rw [← htop, hpat]

/-- A buffer that begins with a code word is at no EOL (R155). -/
theorem atEol_eq_false_of_row {c : Color} {r : T4Row} {buf : Word} {bits : Nat} (hr : r ∈ treeRows c)
    (hbuf : codeBits r.len r.value <+: bufferBits buf bits) : atEol buf bits = false := by
  refine Bool.eq_false_iff.2 fun heol => ?_
  obtain ⟨k, hk, htrue⟩ := List.mem_iff_getElem.1 (row_unlike_eol c r hr)
  rw [List.length_take] at hk
  rw [List.getElem_take, ← peek_of_prefix hbuf k (by omega)] at htrue
  have hzero : ∀ j (h : j < eolBits.length), j < 11 → eolBits[j] = false := by decide
  have hk12 : k < eolBits.length := by rw [eolBits_length]; omega
  rw [peek_of_prefix (atEol_iff.1 heol) k hk12, hzero k hk12 (by omega)] at htrue
  cases htrue

/-! ## The next token of a line (40_g3_huffman.md R138, R140) -/

theorem lookup_row {c : Color} {r : T4Row} {buf : Word} {bits : Nat} (hr : r ∈ treeRows c)
    (hbuf : codeBits r.len r.value <+: bufferBits buf bits) : lookup c buf bits = .ok (r.instr, r.len) := by
  have hlen := codeBits_length r.len r.value
  have hbits := length_le_of_prefix hbuf
  have hwalk := walk_of_follow (bits := bits) (i := 0) (follow_row c r hr) (by omega)
    fun k hk => by rw [Nat.zero_add]; exact peek_of_prefix hbuf k hk
  rw [lookup, hwalk, hlen, Nat.zero_add]

/-- A code word of the selected tree at the head of the buffer is read, before a run and inside one. -/
theorem decodeG3_row {c : Color} {r : T4Row} {buf : Word} {bits : Nat} (hr : r ∈ treeRows c)
    (hbuf : codeBits r.len r.value <+: bufferBits buf bits) (start : Bool) :
    decodeG3 c start buf bits = .ok (r.instr, r.len) := by
  rw [decodeG3, atEol_eq_false_of_row hr hbuf, Bool.and_false, if_neg Bool.false_ne_true, lookup_row hr hbuf]

/-- An EOL at the head of the buffer is read before a run (R147). -/
theorem decodeG3_eol {buf : Word} {bits : Nat} (hbuf : eolBits <+: bufferBits buf bits) (c : Color) :
    decodeG3 c true buf bits = .ok (.eol, 12) := by
  rw [decodeG3, atEol_iff.2 hbuf]; rfl

/-! ## A buffer that holds a list of bits (10_state.md R29) -/

/-- The number whose bits are a list, the first the most significant. -/
def bitsNumber (bs : List Bool) : Nat := bs.foldl (fun n b => 2 * n + b.toNat) 0

theorem bufferOf_eq (bs : List Bool) : bufferOf bs = BitVec.ofNat 32 (bitsNumber bs) <<< (32 - bs.length) := rfl

theorem bitsNumber_append_singleton (bs : List Bool) (b : Bool) :
    bitsNumber (bs ++ [b]) = Nat.bit b (bitsNumber bs) := by
  rw [bitsNumber, List.foldl_append, Nat.bit_val]; rfl

theorem testBit_bitsNumber (bs : List Bool) (j : Nat) (h : j < bs.length) :
    (bitsNumber bs).testBit j = bs[bs.length - 1 - j] := by
  induction bs using List.reverseRecOn generalizing j with
  | nil => exact absurd h (Nat.not_lt_zero _)
  | append_singleton bs b ih =>
    rw [bitsNumber_append_singleton]
    rw [List.length_append, List.length_singleton] at h
    cases j with
    | zero => simp
    | succ j =>
      have hplace : (bs ++ [b]).length - 1 - (j + 1) = bs.length - 1 - j := by simp; omega
      rw [Nat.testBit_bit_succ, ih j (by omega)]
      simp only [hplace]
      rw [List.getElem_append_left]

/-- The valid bits of the buffer of a list are the list. -/
theorem bufferBits_bufferOf {bs : List Bool} (h : bs.length ≤ 32) : bufferBits (bufferOf bs) bs.length = bs := by
  refine List.ext_getElem (bufferBits_length _ _) fun k hk hk' => ?_
  have hword : 31 - k < 32 := by omega
  have habove : ¬31 - k < 32 - bs.length := by omega
  have hplace : 31 - k - (32 - bs.length) = bs.length - 1 - k := by omega
  have hback : bs.length - 1 - (bs.length - 1 - k) = k := by omega
  have hin : bs.length - 1 - k < 32 := by omega
  have hbit := testBit_bitsNumber bs (bs.length - 1 - k) (by omega)
  simp only [hback] at hbit
  rw [← hbit]
  simp only [bufferBits, peek, bufferOf_eq, List.getElem_map, List.getElem_range, BitVec.getLsbD_shiftLeft,
    BitVec.getLsbD_ofNat, hword, habove, hplace, hin, decide_true, decide_false, Bool.not_false, Bool.true_and]

theorem prefix_bufferOf {bs rest : List Bool} (h : bs.length + rest.length ≤ 32) :
    bs <+: bufferBits (bufferOf (bs ++ rest)) (bs.length + rest.length) := by
  rw [← List.length_append] at h ⊢
  rw [bufferBits_bufferOf h]
  exact List.prefix_append bs rest

/-! ## The contexts of a code word (30_encoding.md R94, R98) -/

/-- What a context of the stream of a line reads: a row of its colour's tables, or an EOL before a run. -/
def ReadInLine (c : Color) (start : Bool) (i : Instr) : Prop :=
  (i = .eol ∧ start = true) ∨ ∃ r ∈ treeRows c, r.instr = i

/-- An instruction that is read in one colour alone stands in that colour's tables. -/
theorem readInLine_of_color {i : Instr} {k c : Color} {start : Bool} (hrow : ∃ r ∈ treeRows k, r.instr = i)
    (h : Context.codeWord c start ∈ [Context.codeWord k true, Context.codeWord k false]) : ReadInLine c start i := by
  have hc : c = k := by
    obtain e | e := List.mem_pair.1 h
    · exact (Context.codeWord.inj e).1
    · exact (Context.codeWord.inj e).1
  exact .inr (hc ▸ hrow)

theorem readInLine_of_both {i : Instr} (hrow : ∀ c, ∃ r ∈ treeRows c, r.instr = i) (c : Color) (start : Bool) :
    ReadInLine c start i := .inr (hrow c)

theorem readInLine {i : Instr} {c : Color} {start : Bool} (h : Context.codeWord c start ∈ i.contexts) :
    ReadInLine c start i := by
  cases i with
  | nop | g3Reset | g3Line | rleDecode | cmeNew | cmeExtract | cmeRgba | fxcDec | fxcEnc | icnUnpack1 | icnMono
  | icnAlpha | runRle8 | runRle4 | runRle24 | absRle8 | absRle4 | absRle24 | rleEol | eob | delta =>
    simp [Instr.contexts] at h
  | eol =>
    cases start with
    | true => exact .inl ⟨rfl, rfl⟩
    | false => simp [Instr.contexts] at h
  | wt0 | wt1 | wt2 | wt3 | wt4 | wt5 | wt6 | wt7 | wt8 | wt9 | wt10 | wt11 | wt12 | wt13 | wt14 | wt15 | wt16 | wt17
  | wt18 | wt19 | wt20 | wt21 | wt22 | wt23 | wt24 | wt25 | wt26 | wt27 | wt28 | wt29 | wt30 | wt31 | wt32 | wt33 | wt34
  | wt35 | wt36 | wt37 | wt38 | wt39 | wt40 | wt41 | wt42 | wt43 | wt44 | wt45 | wt46 | wt47 | wt48 | wt49 | wt50 | wt51
  | wt52 | wt53 | wt54 | wt55 | wt56 | wt57 | wt58 | wt59 | wt60 | wt61 | wt62 | wt63
  | wm64 | wm128 | wm192 | wm256 | wm320 | wm384 | wm448 | wm512 | wm576 | wm640 | wm704 | wm768 | wm832 | wm896 | wm960
  | wm1024 | wm1088 | wm1152 | wm1216 | wm1280 | wm1344 | wm1408 | wm1472 | wm1536 | wm1600 | wm1664 | wm1728 =>
    exact readInLine_of_color (k := .white) (by decide +kernel) h
  | bt0 | bt1 | bt2 | bt3 | bt4 | bt5 | bt6 | bt7 | bt8 | bt9 | bt10 | bt11 | bt12 | bt13 | bt14 | bt15 | bt16 | bt17
  | bt18 | bt19 | bt20 | bt21 | bt22 | bt23 | bt24 | bt25 | bt26 | bt27 | bt28 | bt29 | bt30 | bt31 | bt32 | bt33 | bt34
  | bt35 | bt36 | bt37 | bt38 | bt39 | bt40 | bt41 | bt42 | bt43 | bt44 | bt45 | bt46 | bt47 | bt48 | bt49 | bt50 | bt51
  | bt52 | bt53 | bt54 | bt55 | bt56 | bt57 | bt58 | bt59 | bt60 | bt61 | bt62 | bt63
  | bm64 | bm128 | bm192 | bm256 | bm320 | bm384 | bm448 | bm512 | bm576 | bm640 | bm704 | bm768 | bm832 | bm896 | bm960
  | bm1024 | bm1088 | bm1152 | bm1216 | bm1280 | bm1344 | bm1408 | bm1472 | bm1536 | bm1600 | bm1664 | bm1728 =>
    exact readInLine_of_color (k := .black) (by decide +kernel) h
  | xm1792 | xm1856 | xm1920 | xm1984 | xm2048 | xm2112 | xm2176 | xm2240 | xm2304 | xm2368 | xm2432 | xm2496 | xm2560 =>
    exact readInLine_of_both (fun c => by cases c <;> decide +kernel) c start

/-- Settles O4: the bits are those of a row or of `EOL`, and stand at the head of the buffer. -/
theorem codeWordIsReadAtTheHeadOfTheBuffer : Obligations.CodeWordIsReadAtTheHeadOfTheBuffer := by
  intro i bs rest c start hcode hctx hlen
  have hbuf := prefix_bufferOf hlen
  obtain ⟨rfl, rfl⟩ | ⟨r, hr, rfl⟩ := readInLine hctx
  · cases hcode.symm.trans encode_eol
    exact decodeG3_eol hbuf c
  · cases hcode.symm.trans (encode_row c r hr)
    rw [codeBits_length] at hbuf ⊢
    exact decodeG3_row hr hbuf start

end Sys2Proof
end

section
/-! SUPPORT. Command words and RLE heads as numbers and bytes, and the round trip of every instruction in every context that
reads it (30_encoding.md R90 to R103). -/

namespace Sys2Proof

open Sys2Proof.Machine

/-! ## Command words (30_encoding.md R91 to R93) -/

/-- A word with legal reserved bits is that of its two fields (R91). -/
theorem commandWord_of_fields {w : Word} (h : commandRest w = 0) :
    w = commandWord (opField w).toNat (chField w).toNat := by
  have hrest := congrArg BitVec.toNat h
  refine BitVec.eq_of_toNat_eq ?_
  simp only [commandRest, opField, chField, commandWord, BitVec.extractLsb'_toNat, BitVec.toNat_ofNat,
    Nat.shiftRight_eq_div_pow, BitVec.ofNat_eq_ofNat, Nat.reducePow] at hrest ⊢
  omega

theorem channelOf_number (ch : BitVec 2) : (channelOf ch).number = ch.toNat := by
  revert ch; decide

theorem encode_plainCommand : ∀ p ∈ plainCommands, encode p.2 = .command (commandWord p.1.toNat 0) := by decide

theorem encode_of_decodeCommand {w : Word} {i : Instr} (h : decodeCommand w = .ok i) : encode i = .command w := by
  unfold decodeCommand at h
  split at h
  · cases h
  rename_i hrest
  have hw := commandWord_of_fields (not_not.1 hrest)
  split at h
  · rename_i hop
    cases h
    rw [hop, ← channelOf_number] at hw
    exact congrArg Code.command hw.symm
  split at h
  · rename_i hop
    cases h
    rw [hop, ← channelOf_number] at hw
    exact congrArg Code.command hw.symm
  split at h
  · cases h
  rename_i hch
  rw [hw, not_not.1 hch]
  split at h
  · rename_i j hj
    cases h
    obtain ⟨l₁, l₂, hl, -⟩ := List.lookup_eq_some_iff.1 hj
    exact encode_plainCommand (opField w, i) (by rw [hl]; simp)
  · cases h

theorem isCommand_of_encode {i : Instr} {w : Word} (h : encode i = .command w) : i.isCommand = true := by
  rw [Instr.isCommand, h]

/-- The word of a command, which `encode` writes, decodes to the command. -/
theorem decodeCommand_of_encode {i : Instr} {w : Word} (h : encode i = .command w) : decodeCommand w = .ok i := by
  have hi := isCommand_of_encode h
  cases i, hi using Instr.command_cases with
  | cmeNew ch | cmeExtract ch => cases h; cases ch <;> rfl
  | nop | g3Reset | g3Line | rleDecode | cmeRgba | fxcDec | fxcEnc | icnUnpack1 | icnMono | icnAlpha => cases h; rfl

/-- Settles O1, from the two directions. -/
theorem commandWordsDecodeExactly : Obligations.CommandWordsDecodeExactly := fun _ _ =>
  ⟨encode_of_decodeCommand, decodeCommand_of_encode⟩

/-! ## RLE heads (30_encoding.md R100, R103) -/

/-- Settles O6, branch by branch of the decoder: a first byte other than 0 is the length of a `RUN`; after 0 come the three
escapes, and a second byte from 3 on is the length of an `ABS`. -/
theorem rleHeadsAreUnambiguous : Obligations.RleHeadsAreUnambiguous := by
  intro m a b
  unfold decodeRle
  split
  · rename_i ha
    have hwf : (a != 0) = true := bne_iff_ne.2 ha
    cases m <;> exact ⟨hwf, rfl, List.mem_singleton_self _⟩
  rename_i ha
  obtain rfl : a = 0 := not_not.1 ha
  split
  · subst b; cases m <;> exact ⟨rfl, rfl, by decide⟩
  split
  · subst b; cases m <;> exact ⟨rfl, rfl, by decide⟩
  split
  · subst b; cases m <;> exact ⟨rfl, rfl, by decide⟩
  · rename_i h0 h1 h2
    have hlen : 3 ≤ b.toNat := by bv_omega
    cases m <;> exact ⟨decide_eq_true hlen, rfl, List.mem_singleton_self _⟩

/-- The length of an `ABS` is none of the escapes. -/
theorem no_escape_of_three_le {n : Byte} (h : 3 ≤ n.toNat) : n ≠ 0 ∧ n ≠ 1 ∧ n ≠ 2 := by
  bv_omega

/-- The head of a well-formed stream command decodes to it in each of its modes. -/
theorem decode_encode_head {i : Instr} {m : RleMode} (hwf : i.wellFormed = true) (h : Context.rle m ∈ i.contexts) :
    decode (.rle m) (encode i) = .ok i := by
  cases i with
  | runRle8 n v | runRle4 n v | runRle24 n b =>
    cases List.mem_singleton.1 h
    exact congrArg Except.ok (if_pos (bne_iff_ne.1 hwf))
  | absRle8 n | absRle4 n | absRle24 n =>
    cases List.mem_singleton.1 h
    obtain ⟨h0, h1, h2⟩ := no_escape_of_three_le (of_decide_eq_true hwf)
    exact congrArg Except.ok
      ((if_neg (not_not.2 rfl)).trans ((if_neg h0).trans ((if_neg h1).trans (if_neg h2))))
  | rleEol | eob | delta => rfl
  | _ => simp [Instr.contexts] at h

/-! ## Every instruction in every context -/

theorem isCommand_of_context {i : Instr} (h : Context.command ∈ i.contexts) : i.isCommand = true := by
  cases i with
  | nop | g3Reset | g3Line | rleDecode | cmeNew | cmeExtract | cmeRgba | fxcDec | fxcEnc | icnUnpack1 | icnMono
  | icnAlpha => rfl
  | _ => simp [Instr.contexts] at h

theorem decode_encode_command {i : Instr} (hi : i.isCommand = true) : decode .command (encode i) = .ok i := by
  unfold Instr.isCommand at hi
  split at hi
  · rename_i w hw
    rw [hw]
    exact decodeCommand_of_encode hw
  · cases hi
  · cases hi

/-- A code that the buffer holds alone is read whole. -/
theorem decode_of_decodeG3 {c : Color} {start : Bool} {bs : List Bool} {i : Instr}
    (h : decodeG3 c start (bufferOf bs) bs.length = .ok (i, bs.length)) :
    decode (.codeWord c start) (.bits bs) = .ok i := by
  rw [decode, h]
  exact if_pos rfl

theorem decode_encode_codeWord {i : Instr} {c : Color} {start : Bool} (h : Context.codeWord c start ∈ i.contexts) :
    decode (.codeWord c start) (encode i) = .ok i := by
  have alone : ∀ bs, encode i = .bits bs → bs.length ≤ 32 → decode (.codeWord c start) (encode i) = .ok i := by
    intro bs hcode hlen
    have hread := codeWordIsReadAtTheHeadOfTheBuffer i bs [] c start hcode h hlen
    rw [List.append_nil, List.length_nil, Nat.add_zero] at hread
    rw [hcode]
    exact decode_of_decodeG3 hread
  obtain ⟨rfl, -⟩ | ⟨r, hr, rfl⟩ := readInLine h
  · exact alone eolBits encode_eol (by decide)
  · have hlen := row_lengths c r hr
    exact alone _ (encode_row c r hr) (by rw [codeBits_length]; omega)

/-- Settles O3, by the kind of the context. -/
theorem decodeOfEncodeIsTheInstruction : Obligations.DecodeOfEncodeIsTheInstruction := by
  intro i hwf ctx hctx
  cases ctx with
  | command => exact decode_encode_command (isCommand_of_context hctx)
  | codeWord c start => exact decode_encode_codeWord hctx
  | rle m => exact decode_encode_head hwf hctx

/-- Settles O7: the words are those of `encode`, in contexts that read them. -/
theorem writtenOutWordsDecode : Obligations.WrittenOutWordsDecode :=
  ⟨decodeCommand_of_encode rfl, decodeCommand_of_encode rfl,
    decodeOfEncodeIsTheInstruction .wt2 rfl (.codeWord .white true) (by decide),
    decodeOfEncodeIsTheInstruction .bt4 rfl (.codeWord .black true) (by decide),
    decodeOfEncodeIsTheInstruction .wm64 rfl (.codeWord .white false) (by decide),
    decodeOfEncodeIsTheInstruction .bm512 rfl (.codeWord .black true) (by decide),
    decodeOfEncodeIsTheInstruction .xm2560 rfl (.codeWord .black false) (by decide),
    decodeOfEncodeIsTheInstruction .eol rfl (.codeWord .white true) (by decide),
    decodeOfEncodeIsTheInstruction (.runRle8 3 5) rfl (.rle .rle8) (by decide),
    decodeOfEncodeIsTheInstruction (.absRle4 5) rfl (.rle .rle4) (by decide),
    decodeOfEncodeIsTheInstruction .delta rfl (.rle .rle24) (by decide)⟩

end Sys2Proof
end

section
/-! SUPPORT. The expansion of a run of any length: make-up codes, then one terminal code (30_encoding.md R121). -/

namespace Sys2Proof

/-- The instructions are code words of a run of length `n`: make-up codes of the colour's tree, then a terminal code. -/
inductive RunCode (c : Color) : Nat → List Instr → Prop
  | terminal (r : T4Row) (hr : r ∈ treeRows c) (hrun : r.run ≤ 63) : RunCode c r.run [r.instr]
  | makeup (r : T4Row) (hr : r ∈ treeRows c) (hrun : 64 ≤ r.run) {n : Nat} {is : List Instr} (h : RunCode c n is) :
    RunCode c (r.run + n) (r.instr :: is)

/-- The tables have one terminal code for each run below 64 … -/
theorem rowInstr_terminal :
    ∀ c : Color, ∀ n < 64, ∃ r ∈ treeRows c, r.run = n ∧ rowInstr (treeRows c) n = [r.instr] := by
  intro c
  cases c <;> decide +kernel

/-- … and one make-up code for each multiple of 64 up to 2560. -/
theorem rowInstr_makeup :
    ∀ c : Color, ∀ q < 41, 0 < q → ∃ r ∈ treeRows c, r.run = 64 * q ∧ rowInstr (treeRows c) (64 * q) = [r.instr] := by
  intro c
  cases c <;> decide +kernel

theorem xm2560_row (c : Color) : ⟨.xm2560, 2560, 12, 0x1F⟩ ∈ treeRows c := by
  cases c <;> decide +kernel

theorem runCode_expandTail (c : Color) {n : Nat} (h : n < 2624) : RunCode c n (expandTail c n) := by
  obtain ⟨l, hl, hlrun, hlrow⟩ := rowInstr_terminal c (n % 64) (Nat.mod_lt n (by omega))
  have hterminal := RunCode.terminal l hl (by omega)
  rw [expandTail, hlrow]
  split
  · obtain ⟨m, hm, hmrun, hmrow⟩ := rowInstr_makeup c (n / 64) (by omega) (by omega)
    have hsum : m.run + l.run = n := by omega
    rw [hmrow, ← hsum]
    exact .makeup m hm (by omega) hterminal
  · have hsum : l.run = n := by omega
    rw [List.nil_append, ← hsum]
    exact hterminal

/-- Each leading `XM2560` takes 2560 from the run, and leaves at least 64. -/
theorem runCode_expandRunUpTo (c : Color) (k : Nat) {n : Nat} (h : n < 2560 * k + 2624) :
    RunCode c n (expandRunUpTo c k n) := by
  induction k generalizing n with
  | zero => exact runCode_expandTail c (by omega)
  | succ k ih =>
    rw [expandRunUpTo]
    split
    · have hrest : RunCode c (n - 2560) (expandRunUpTo c k (n - 2560)) := ih (by omega)
      have hsum : 2560 + (n - 2560) = n := by omega
      have hmakeup := RunCode.makeup _ (xm2560_row c) (by decide) hrest
      rwa [hsum] at hmakeup
    · exact runCode_expandTail c (by omega)

theorem runCode_expandRun (c : Color) (n : Nat) : RunCode c n (expandRun c n) :=
  runCode_expandRunUpTo c (n / 2560) (by omega)

/-- The rows of a run's code words. -/
theorem RunCode.rows {c : Color} {n : Nat} {is : List Instr} (h : RunCode c n is) :
    ∃ (ms : List T4Row) (l : T4Row), is = (ms ++ [l]).map (fun r => r.instr) ∧
      (∀ r ∈ ms, r ∈ treeRows c ∧ 64 ≤ r.run) ∧ (l ∈ treeRows c ∧ l.run ≤ 63) ∧
      ((ms ++ [l]).map fun r => r.run).sum = n := by
  induction h with
  | terminal r hr hrun => exact ⟨[], r, rfl, nofun, ⟨hr, hrun⟩, rfl⟩
  | makeup m hm hrun _ ih =>
    obtain ⟨ms, l, his, hms, hl, hsum⟩ := ih
    refine ⟨m :: ms, l, by rw [his]; rfl, ?_, hl, by rw [← hsum]; rfl⟩
    exact List.forall_mem_cons.2 ⟨⟨hm, hrun⟩, hms⟩

/-- Settles O8. -/
theorem runExpansionAddsUpToTheRun : Obligations.RunExpansionAddsUpToTheRun := fun c n =>
  (runCode_expandRun c n).rows

end Sys2Proof
end

section
/-! SUPPORT. A line that is encoded as runs, decoded turn by turn: what every turn reads of the code, and what it draws
(30_encoding.md R121; 40_g3_huffman.md R140 to R145, R157); and the two commands that need no stream. -/

namespace Sys2Proof.Machine

/-! ## The next code word of the stream (40_g3_huffman.md R132, R140) -/

theorem streamBitsFrom_self (s : State) (p : Nat) : streamBitsFrom s p p = [] := by simp [streamBitsFrom]

theorem pendingBits_setRun (r : Running) (s : State) : ({ s with run := r } : State).pendingBits = s.pendingBits := rfl

/-- What the bits not yet decoded begin with is in the buffer after a refill, up to the 25 bits that a refill assures. -/
theorem prefix_refill {s : State} (hs : s.bufferLegal) (hp : s.inPos.toNat ≤ s.inLen.toNat) {bs : List Bool}
    (hlen : bs.length ≤ 25) (h : bs <+: s.pendingBits) : bs <+: bufferBits (refill s).g3Buf (refill s).g3Bits.toNat := by
  rw [← refill_pendingBits hs, pendingBits_eq] at h
  obtain hfull | hend := refill_fills hp
  · exact List.prefix_of_prefix_length_le h (List.prefix_append _ _) (by rw [bufferBits_length]; omega)
  · have hlast : (refill s).inLen = s.inLen := by rw [refill_frame s]
    rwa [hlast, hend, streamBitsFrom_self, List.append_nil] at h

section
variable {s : State} {r : G3Run} {row : T4Row}

theorem atCode_g3Buf (r : G3Run) (s : State) : (atCode r s).g3Buf = (refill s).g3Buf := by rw [atCode]

theorem atCode_g3Width (r : G3Run) (s : State) : (atCode r s).g3Width = s.g3Width := by rw [atCode, refill_frame s]

theorem atCode_bufferLegal (hs : s.bufferLegal) : (atCode r s).bufferLegal :=
  (bufferLegal_congr (atCode_g3Buf r s) (atCode_g3Bits r s)).2 (refill_bufferLegal hs)

theorem atCode_pendingBits (hs : s.bufferLegal) : (atCode r s).pendingBits = s.pendingBits := by
  rw [atCode, pendingBits_setRun, refill_pendingBits hs]

theorem row_prefix_atCode (hs : s.bufferLegal) (hp : s.inPos.toNat ≤ s.inLen.toNat) (hrow : row ∈ treeRows r.color)
    (h : codeBits row.len row.value <+: s.pendingBits) :
    codeBits row.len row.value <+: bufferBits (atCode r s).g3Buf (atCode r s).g3Bits.toNat := by
  have hlen := row_lengths _ row hrow
  rw [atCode_g3Buf, atCode_g3Bits]
  exact prefix_refill hs hp (by rw [codeBits_length]; omega) h

theorem row_len_le_atCode (hs : s.bufferLegal) (hp : s.inPos.toNat ≤ s.inLen.toNat) (hrow : row ∈ treeRows r.color)
    (h : codeBits row.len row.value <+: s.pendingBits) : row.len ≤ (atCode r s).g3Bits.toNat := by
  simpa only [codeBits_length] using length_le_of_prefix (row_prefix_atCode hs hp hrow h)

/-- Inside the line, a code word of the selected tree that comes next is what the loop finds. -/
theorem fetchToken_row (hr : s.run = .g3 r) (hx : s.g3X.toNat < s.g3Width.toNat) (hs : s.bufferLegal)
    (hp : s.inPos.toNat ≤ s.inLen.toNat) (hrow : row ∈ treeRows r.color)
    (h : codeBits row.len row.value <+: s.pendingBits) : fetchToken s = .instr row.instr (atCode r s) := by
  have hfetch : fetchToken s = fetchG3 r s := by rw [fetchToken, hr]
  have hbits := row_len_le_atCode hs hp hrow h
  have hlen := row_lengths _ row hrow
  rw [hfetch]
  obtain ⟨hcomplete, -⟩ | ⟨-, ⟨-, hnone⟩ | hf⟩ := fetchG3_cases hr
  · omega
  · omega
  · have hdecode := decodeG3_row hrow (row_prefix_atCode hs hp hrow h) (!(lineRun r).midRun)
    rw [hf, nextCode, lineRun_color, hdecode]

/-- What is left after a code word is read. -/
theorem consume_row_pendingBits (hs : s.bufferLegal) (hp : s.inPos.toNat ≤ s.inLen.toNat)
    (hrow : row ∈ treeRows r.color) {tail : List Bool} (h : s.pendingBits = codeBits row.len row.value ++ tail) :
    (consume row.len (atCode r s)).pendingBits = tail := by
  have hprefix : codeBits row.len row.value <+: s.pendingBits := ⟨tail, h.symm⟩
  rw [consume_pendingBits (atCode_bufferLegal hs) (row_len_le_atCode hs hp hrow hprefix), atCode_pendingBits hs, h]
  exact List.drop_left' (codeBits_length _ _)

end

/-! ## Terminal and make-up codes by their runs (40_g3_huffman.md R144 to R146) -/

theorem terminal_runs : (∀ r ∈ whiteTerminal, r.run ≤ 63) ∧ ∀ r ∈ blackTerminal, r.run ≤ 63 := by decide

theorem makeup_runs :
    (∀ r ∈ whiteMakeup, 64 ≤ r.run) ∧ (∀ r ∈ blackMakeup, 64 ≤ r.run) ∧ ∀ r ∈ sharedMakeup, 64 ≤ r.run := by decide

/-- A code word of a tree is a terminal code with a run below 64, or a make-up code with a run from 64 on. -/
theorem row_class {c : Color} {row : T4Row} (h : row ∈ treeRows c) :
    (row.run ≤ 63 ∧ ∀ s, execToken row.instr s = terminalCode c row.len row.run s) ∨
    (64 ≤ row.run ∧ ∀ s r, s.run = .g3 r → r.color = c →
      execToken row.instr s = .next (makeup row.len row.run r s)) := by
  obtain ⟨hwhite, hblack⟩ := terminal_runs
  obtain ⟨hwhiteM, hblackM, hshared⟩ := makeup_runs
  have shared : row ∈ sharedMakeup → 64 ≤ row.run ∧ ∀ s r, s.run = .g3 r → r.color = c →
      execToken row.instr s = .next (makeup row.len row.run r s) := fun h =>
    ⟨hshared row h, fun s r hr _ => by rw [execToken_sharedMakeup row h s, sharedCode, hr]⟩
  cases c with
  | white =>
    obtain h | h := List.mem_append.1 h
    · obtain h | h := List.mem_append.1 h
      · exact .inl ⟨hwhite row h, execToken_whiteTerminal row h⟩
      · refine .inr ⟨hwhiteM row h, fun s r hr hc => ?_⟩
        rw [execToken_whiteMakeup row h s]; simp [makeupCode, hr, hc]
    · exact .inr (shared h)
  | black =>
    obtain h | h := List.mem_append.1 h
    · obtain h | h := List.mem_append.1 h
      · exact .inl ⟨hblack row h, execToken_blackTerminal row h⟩
      · refine .inr ⟨hblackM row h, fun s r hr hc => ?_⟩
        rw [execToken_blackMakeup row h s]; simp [makeupCode, hr, hc]
    · exact .inr (shared h)

theorem execToken_of_terminal {c : Color} {row : T4Row} (h : row ∈ treeRows c) (hrun : row.run ≤ 63) {s : State}
    {r : G3Run} (hr : s.run = .g3 r) (hc : r.color = c) :
    execToken row.instr s = .next (endRun c (satAdd r.acc row.run) (consume row.len s)) := by
  obtain ⟨-, he⟩ | ⟨hlong, -⟩ := row_class h
  · rw [he s]; simp [terminalCode, hr, hc]
  · omega

theorem execToken_of_makeup {c : Color} {row : T4Row} (h : row ∈ treeRows c) (hrun : 64 ≤ row.run) {s : State}
    {r : G3Run} (hr : s.run = .g3 r) (hc : r.color = c) :
    execToken row.instr s = .next (makeup row.len row.run r s) := by
  obtain ⟨hshort, -⟩ | ⟨-, he⟩ := row_class h
  · omega
  · exact he s r hr hc

/-! ## The code of a line (30_encoding.md R119, R121) -/

theorem streamBits_cons_row {c : Color} {row : T4Row} (h : row ∈ treeRows c) (is : List Instr) :
    streamBits (row.instr :: is) = codeBits row.len row.value ++ streamBits is := by
  rw [streamBits, List.flatMap_cons, encode_row c row h]; rfl

/-- The runs fill the line from pixel `x` to its width, and each begins inside the line. -/
def RunsFill (width : Nat) : Nat → List Nat → Prop
  | x, [] => x = width
  | x, n :: ns => x < width ∧ RunsFill width (x + n) ns

theorem RunsFill.le {width x : Nat} {runs : List Nat} (h : RunsFill width x runs) : x ≤ width := by
  cases runs with
  | nil => exact Nat.le_of_eq h
  | cons n ns => exact Nat.le_of_lt h.1

theorem runsFill_of_sum {width x : Nat} {runs : List Nat} (hsum : x + runs.sum = width)
    (hstart : ∀ k, k < runs.length → x + (runs.take k).sum < width) : RunsFill width x runs := by
  induction runs generalizing x with
  | nil => exact hsum
  | cons n ns ih =>
    rw [List.sum_cons, ← Nat.add_assoc] at hsum
    refine ⟨hstart 0 (Nat.succ_pos _), ih hsum fun k hk => ?_⟩
    have hnext := hstart (k + 1) (Nat.succ_lt_succ hk)
    rwa [List.take_succ_cons, List.sum_cons, ← Nat.add_assoc] at hnext

/-! ## A line as far as it is decoded -/

theorem OnLine.pixelLevel {s t : State} (h : OnLine s t) (c : Color) : pixelLevel t c = pixelLevel s c := by
  rw [h.frame]; rfl

/-- How far the decode of `s` has come at `u` on a line with the given pixels: those left of the cursor are drawn and `colors`
are to be drawn, and the code words `is` are to be read before the bits after the line. -/
structure LineLeft (s : State) (pixels : List Color) (rest : List Bool) (is : List Instr) (colors : List Color)
    (u : State) : Prop where
  onLine : OnLine (startLine s) u
  legal : u.bufferLegal
  drawn : ∀ a, a < u.g3X.toNat → u.byteAt .lb a = pixelLevel s (pixels.getD a .white)
  ahead : pixels.drop u.g3X.toNat = colors
  pending : u.pendingBits = streamBits is ++ rest

/-- Where the decode of an encoded line can stand: before a run, or at the end of the line; inside a run, of which a part is
read and no pixel drawn; and ended. -/
inductive EncodedLine (s : State) (pixels : List Color) (rest : List Bool) (u : State) : Prop
  | betweenRuns (c : Color) (runs : List Nat) (hr : u.run = .g3 { color := c, acc := 0, midRun := false })
    (hfill : RunsFill u.g3Width.toNat u.g3X.toNat runs)
    (h : LineLeft s pixels rest (lineCode c runs) (linePixels c runs) u)
  | insideRun (r : G3Run) (n : Nat) (is : List Instr) (runs : List Nat) (hr : u.run = .g3 r) (hm : r.midRun = true)
    (hx : u.g3X.toNat < u.g3Width.toNat) (hcode : RunCode r.color n is)
    (hfill : RunsFill u.g3Width.toNat (u.g3X.toNat + (r.acc + n)) runs)
    (h : LineLeft s pixels rest (is ++ lineCode (otherColor r.color) runs)
      (List.replicate (r.acc + n) r.color ++ linePixels (otherColor r.color) runs) u)
  | ended (hr : u.run = .idle) (hstatus : u.status = endStatus .ok {}) (hx : u.g3X = u.g3Width)
    (h : LineLeft s pixels rest [] [] u)

section
variable {s u t : State} {pixels colors : List Color} {rest : List Bool} {is : List Instr}

theorem LineLeft.g3Width (h : LineLeft s pixels rest is colors u) : u.g3Width = s.g3Width := by
  rw [h.onLine.frame]; rfl

theorem LineLeft.inPos (h : LineLeft s pixels rest is colors u) (hp : s.inPos.toNat ≤ s.inLen.toNat) :
    u.inPos.toNat ≤ u.inLen.toNat := by
  rw [h.onLine.further.1]
  exact (h.onLine.further.2 hp).2

theorem LineLeft.pixelLevel (h : LineLeft s pixels rest is colors u) (c : Color) :
    pixelLevel u c = Machine.pixelLevel s c := by
  rw [h.onLine.pixelLevel]; rfl

theorem LineLeft.setRun (h : LineLeft s pixels rest is colors u) (r : Running) :
    LineLeft s pixels rest is colors { u with run := r } :=
  ⟨h.onLine.trans (onLine_setRun r u), (bufferLegal_congr rfl rfl).2 h.legal, h.drawn, h.ahead, h.pending⟩

theorem LineLeft.halt (h : LineLeft s pixels rest is colors u) (c : ResultCode) (f : ResultFlags) :
    LineLeft s pixels rest is colors (halt c f u) :=
  ⟨h.onLine.trans (onLine_halt c f u), (bufferLegal_congr rfl rfl).2 h.legal, h.drawn, h.ahead, h.pending⟩

/-- Reading a code word takes it from those to be read, and leaves the line. -/
theorem LineLeft.readRow {row : T4Row} {r : G3Run} (h : LineLeft s pixels rest (row.instr :: is) colors u)
    (hp : s.inPos.toNat ≤ s.inLen.toNat) (hrow : row ∈ treeRows r.color) :
    LineLeft s pixels rest is colors (consume row.len (atCode r u)) := by
  have hread : OnLine u (consume row.len (atCode r u)) := (onLine_atCode r u).trans (onLine_consume _ _)
  have hcursor : (consume row.len (atCode r u)).g3X = u.g3X := by rw [consume_g3X, atCode_g3X]
  have hpending := h.pending
  rw [streamBits_cons_row hrow, List.append_assoc] at hpending
  exact
    { onLine := h.onLine.trans hread
      legal := consume_bufferLegal (atCode_bufferLegal h.legal)
      drawn := fun a ha => by
        rw [hcursor] at ha
        rw [hread.same a (.inl ha)]
        exact h.drawn a ha
      ahead := by rw [hcursor]; exact h.ahead
      pending := consume_row_pendingBits h.legal (h.inPos hp) hrow hpending }

theorem endRun_g3X_of_fit {m : Nat} (hfit : u.g3X.toNat + m ≤ u.g3Width.toNat) (c : Color) :
    (endRun c m u).g3X.toNat = u.g3X.toNat + m := by
  rw [endRun_g3X_toNat, fillCount, Nat.min_eq_left (by omega)]

/-- Drawing a run takes its pixels from those ahead. -/
theorem LineLeft.endRun {m : Nat} {c : Color} (h : LineLeft s pixels rest is (List.replicate m c ++ colors) u)
    (hfit : u.g3X.toNat + m ≤ u.g3Width.toNat) : LineLeft s pixels rest is colors (endRun c m u) := by
  have hx := endRun_g3X_of_fit hfit c
  have hrun : ∀ k, k < m → pixels.getD (u.g3X.toNat + k) .white = c := fun k hk => by
    rw [List.getD_eq_getElem?_getD, ← List.getElem?_drop, h.ahead,
      List.getElem?_append_left (by rw [List.length_replicate]; exact hk), List.getElem?_replicate_of_lt hk]
    rfl
  refine ⟨h.onLine.trans (onLine_endRun c m u), (bufferLegal_congr rfl rfl).2 h.legal, fun a ha => ?_, ?_, h.pending⟩
  · rw [byteAt_endRun]
    split
    · rename_i hin
      have hpixel := hrun (a - u.g3X.toNat) (by omega)
      rw [Nat.add_sub_cancel' hin.1] at hpixel
      rw [h.pixelLevel, hpixel]
    · exact h.drawn a (by omega)
  · rw [hx, ← List.drop_drop, h.ahead, List.drop_left' List.length_replicate]

/-! ## A turn of an encoded line (40_g3_huffman.md R140) -/

/-- A line with no run left is complete. -/
theorem turn_of_complete {c : Color} (hr : u.run = .g3 { color := c, acc := 0, midRun := false })
    (hx : u.g3X = u.g3Width) (h : LineLeft s pixels rest [] [] u) (ht : Turn u t) : EncodedLine s pixels rest t := by
  have hfetch : fetchToken u = .done (raise .ok u) := by
    rw [fetchToken, hr]
    obtain ⟨-, hf⟩ | ⟨hm | hlt, -⟩ := fetchG3_cases hr
    · exact hf
    · cases hm
    · rw [hx] at hlt; omega
  obtain rfl := turn_of_done hfetch ht
  exact .ended rfl rfl hx (h.halt .ok {})

/-- Inside the line, the code word to be read is found and run. -/
theorem turn_of_row {row : T4Row} {r : G3Run} {v : State} (hr : u.run = .g3 r) (hx : u.g3X.toNat < u.g3Width.toNat)
    (hp : s.inPos.toNat ≤ s.inLen.toNat) (hrow : row ∈ treeRows r.color)
    (h : LineLeft s pixels rest (row.instr :: is) colors u) (hexec : execToken row.instr (atCode r u) = .next v)
    (ht : Turn u t) : t = v := by
  have hpending := h.pending
  rw [streamBits_cons_row hrow, List.append_assoc] at hpending
  exact turn_of_instr (fetchToken_row hr hx h.legal (h.inPos hp) hrow ⟨_, hpending.symm⟩) hexec ht

/-- A turn inside the line reads the next code word of the run: a terminal code draws the run, a make-up code lengthens it. -/
theorem turn_of_runCode {r : G3Run} {n : Nat} {runs : List Nat}
    (hw : s.g3Width.toNat ≤ maxDim) (hp : s.inPos.toNat ≤ s.inLen.toNat) (hr : u.run = .g3 r)
    (hx : u.g3X.toNat < u.g3Width.toNat) (hcode : RunCode r.color n is)
    (hfill : RunsFill u.g3Width.toNat (u.g3X.toNat + ((lineRun r).acc + n)) runs)
    (h : LineLeft s pixels rest (is ++ lineCode (otherColor r.color) runs)
      (List.replicate ((lineRun r).acc + n) r.color ++ linePixels (otherColor r.color) runs) u)
    (ht : Turn u t) : EncodedLine s pixels rest t := by
  have hfit := hfill.le
  have hsat : ∀ k, k ≤ n → satAdd (lineRun r).acc k = (lineRun r).acc + k := fun k hk => by
    rw [h.g3Width] at hfit
    exact Nat.min_eq_left (show _ ≤ maxDim by omega)
  have hlook : (atCode r u).run = .g3 (lineRun r) := by rw [atCode]
  cases hcode with
  | terminal row hrow hrun =>
    have hexec := execToken_of_terminal hrow hrun hlook (lineRun_color r)
    rw [hsat _ (Nat.le_refl _)] at hexec
    obtain rfl := turn_of_row hr hx hp hrow h hexec ht
    rw [← atCode_g3X r u, ← consume_g3X row.len, ← atCode_g3Width r u, ← consume_g3Width row.len] at hfit hfill
    refine .betweenRuns (otherColor r.color) runs (endRun_run ..) ?_ ((h.readRow hp hrow).endRun hfit)
    rw [endRun_g3X_of_fit hfit, endRun_g3Width]
    exact hfill
  | @makeup row hrow hrun n' is' hmore =>
    have hexec := execToken_of_makeup hrow hrun hlook (lineRun_color r)
    obtain rfl := turn_of_row hr hx hp hrow h hexec ht
    rw [← Nat.add_assoc (lineRun r).acc, ← hsat _ (Nat.le_add_right _ _)] at h hfill
    rw [← lineRun_color r] at h hmore
    have hcursor : (makeup row.len row.run (lineRun r) (atCode r u)).g3X = u.g3X := by rw [makeup_g3X, atCode_g3X]
    have hwidth : (makeup row.len row.run (lineRun r) (atCode r u)).g3Width = u.g3Width := by
      rw [makeup_g3Width, atCode_g3Width]
    rw [← hcursor, ← hwidth] at hx hfill
    exact .insideRun _ n' is' runs (makeup_run ..) rfl hx hmore hfill ((h.readRow hp hrow).setRun _)

/-- Every turn of an encoded line leaves it at another of its places. -/
theorem EncodedLine.turn (hw : s.g3Width.toNat ≤ maxDim) (hp : s.inPos.toNat ≤ s.inLen.toNat)
    (h : EncodedLine s pixels rest u) (hrun : u.run ≠ .idle) (ht : Turn u t) : EncodedLine s pixels rest t := by
  cases h with
  | betweenRuns c runs hr hfill h =>
    cases runs with
    | nil => exact turn_of_complete hr (BitVec.eq_of_toNat_eq hfill) h ht
    | cons n ns =>
      obtain ⟨hx, hfill⟩ := hfill
      have hstart : (lineRun { color := c, acc := 0, midRun := false }).acc + n = n := Nat.zero_add n
      exact turn_of_runCode hw hp hr hx (runCode_expandRun c n) (by rw [hstart]; exact hfill) (by rw [hstart]; exact h) ht
  | insideRun r n is runs hr hm hx hcode hfill h =>
    have hgoes : lineRun r = r := if_pos hm
    exact turn_of_runCode hw hp hr hx hcode (by rw [hgoes]; exact hfill) (by rw [hgoes]; exact h) ht
  | ended hr => exact absurd hr hrun

end

/-- The start of a line, with all its runs to be read and drawn. -/
theorem encodedLine_start {s : State} {runs : List Nat} {rest : List Bool} (hs : s.bufferLegal)
    (hfill : RunsFill s.g3Width.toNat 0 runs) (h : s.pendingBits = streamBits (lineCode .white runs) ++ rest) :
    EncodedLine s (linePixels .white runs) rest (startLine s) :=
  .betweenRuns .white runs rfl hfill
    { onLine := .of_bits rfl (.of_eq rfl rfl)
      legal := (bufferLegal_congr rfl rfl).2 hs
      drawn := fun _ ha => absurd ha (Nat.not_lt_zero _)
      ahead := rfl
      pending := h }

/-- The level of a colour as the obligations write it (R141; log 5). -/
theorem pixelLevel_eq (s : State) (c : Color) :
    pixelLevel s c = if (c = .black ↔ s.g3Ctrl.getLsbD 0 = true) then s.cfg.whiteBase else ~~~s.cfg.whiteBase := by
  rw [pixelLevel, State.blackIsZero]
  cases c <;> cases s.g3Ctrl.getLsbD 0 <;> simp

/-- Settles O27: from the start of the line every turn stays on the encoded line, so its end is the line's. -/
theorem encodedLineDecodesToItsRuns : Obligations.EncodedLineDecodesToItsRuns := by
  intro s runs rest hr hp hs hsum hstart hpending
  obtain ⟨-, hwidth, hstream⟩ := (g3ParamsOk_iff s).1 hp
  have hw : s.g3Width.toNat ≤ maxDim := Nat.le_trans hwidth (Nat.min_le_left _ _)
  have hpos := ((streamOk_iff s).1 hstream).1
  have hfill : RunsFill s.g3Width.toNat 0 runs :=
    runsFill_of_sum (by rw [Nat.zero_add]; exact hsum) fun k hk => by rw [Nat.zero_add]; exact hstart k hk
  obtain ⟨t, ht, hidle, -⟩ := runCommand_startLine_ends s
  have hline : EncodedLine s (linePixels .white runs) rest t :=
    runTokens_keeps_turn (fun _ _ h hrun hturn => h.turn hw hpos hrun hturn) _ (encodedLine_start hs hfill hpending) ht
  cases hline with
  | betweenRuns c _ hrun | insideRun r _ _ _ hrun => rw [hidle] at hrun; cases hrun
  | ended _ hstatus hx h =>
    rw [h.g3Width] at hx
    refine ⟨t, by rw [exec_g3Line hr, if_pos hp, ht], hstatus, hx, h.pending, fun a ha => ?_⟩
    rw [h.drawn a (by rw [hx]; exact ha), pixelLevel_eq]

/-! ## `G3.RESET` and `NOP` (40_g3_huffman.md R131; 30_encoding.md R93) -/

/-- Settles O25. -/
theorem g3ResetEmptiesTheBufferAndNopNothing : Obligations.G3ResetEmptiesTheBufferAndNopNothing := by
  intro s hr
  constructor
  · rw [exec_g3Reset hr, halt, ← hr]; rfl
  · rw [exec_nop hr, halt, ← hr]; rfl

end Sys2Proof.Machine
end

section
/-! SUPPORT. What `lookup` answers, exactly: where a walk in a code tree can end, and which bits lead there (40_g3_huffman.md R137,
R138, R155). -/

namespace Sys2Proof

open Sys2Proof.Machine

/-! ## The places of a code tree (40_g3_huffman.md R136, R137) -/

/-- Every place of a tree with the bits that lead to it, the absent children of inner nodes included. -/
def Tree.places : Tree → List (List Bool × Tree)
  | .absent => [([], .absent)]
  | .leaf ins => [([], .leaf ins)]
  | .node l r =>
    ([], .node l r) ::
      (l.places.map (fun p => (false :: p.1, p.2)) ++ r.places.map fun p => (true :: p.1, p.2))

theorem Tree.self_mem_places (t : Tree) : ([], t) ∈ t.places := by
  cases t <;> exact List.mem_cons_self

theorem Tree.cons_mem_places {l r u : Tree} {b : Bool} {bs : List Bool} (h : (bs, u) ∈ (if b then r else l).places) :
    (b :: bs, u) ∈ (Tree.node l r).places := by
  refine List.mem_cons_of_mem _ (List.mem_append.2 ?_)
  cases b with
  | false => exact .inl (List.mem_map_of_mem h)
  | true => exact .inr (List.mem_map_of_mem h)

/-- What the tables of a colour say of the place that the bits lead to: a leaf is a row's, an inner node stands on the way to a
row's leaf, and an absent child is met after eight zeros. -/
def placeInTables (c : Color) (bs : List Bool) : Tree → Bool
  | .leaf ins => (treeRows c).any fun r => r.instr == ins && codeBits r.len r.value == bs
  | .node _ _ => (treeRows c).any fun r => decide (bs.length < r.len) && (codeBits r.len r.value).take bs.length == bs
  | .absent => bs == List.replicate 8 false

theorem places_in_tables : ∀ c : Color, ∀ p ∈ (treeOf c).places, placeInTables c p.1 p.2 = true := by
  intro c
  cases c <;> decide +kernel

/-! ## Where a walk ends (R138) -/

/-- The bits stand in the buffer from place `i` on. -/
def BitsAt (buf : Word) (i : Nat) (bs : List Bool) : Prop := ∀ k (h : k < bs.length), peek buf (i + k) = bs[k]

theorem bitsAt_nil (buf : Word) (i : Nat) : BitsAt buf i [] := nofun

theorem bitsAt_cons {buf : Word} {i : Nat} {b : Bool} {bs : List Bool} :
    BitsAt buf i (b :: bs) ↔ peek buf i = b ∧ BitsAt buf (i + 1) bs := by
  constructor
  · intro h
    refine ⟨h 0 (Nat.succ_pos _), fun k hk => ?_⟩
    rw [Nat.add_assoc, Nat.add_comm 1]
    exact h (k + 1) (Nat.succ_lt_succ hk)
  · rintro ⟨hhead, htail⟩ k hk
    cases k with
    | zero => exact hhead
    | succ k =>
      rw [← Nat.add_assoc, Nat.add_right_comm]
      exact htail k (Nat.lt_of_succ_lt_succ hk)

theorem bitsAt_zero_iff {buf : Word} {bs : List Bool} : BitsAt buf 0 bs ↔ bufferBits buf bs.length = bs := by
  constructor
  · intro h
    refine List.ext_getElem (bufferBits_length _ _) fun k _ hk => ?_
    rw [← h k hk, Nat.zero_add]
    simp [bufferBits]
  · intro h k hk
    rw [Nat.zero_add]
    exact peek_of_prefix (bits := bs.length) (by rw [h]) k hk

/-- The place `u` of a tree, `len` bits from the top of a buffer with `bits` valid bits, gives the answer of a walk. -/
inductive WalkEndsAt (bits len : Nat) : Tree → Except Reject (Instr × Nat) → Prop
  | found (ins : Instr) : WalkEndsAt bits len (.leaf ins) (.ok (ins, len))
  | cut (l r : Tree) (h : len = bits) : WalkEndsAt bits len (.node l r) (.error .codeCutShort)
  | lost : WalkEndsAt bits len .absent (.error .unrecognisedCode)

/-- A walk ends at the place of the tree to which valid bits lead. -/
theorem walk_ends (t : Tree) (buf : Word) {bits i : Nat} (hi : i ≤ bits) :
    ∃ bs u, (bs, u) ∈ t.places ∧ BitsAt buf i bs ∧ i + bs.length ≤ bits ∧
      WalkEndsAt bits (i + bs.length) u (walk t buf bits i) := by
  induction t generalizing i with
  | absent => exact ⟨[], _, Tree.self_mem_places _, bitsAt_nil buf i, hi, .lost⟩
  | leaf ins => exact ⟨[], _, Tree.self_mem_places _, bitsAt_nil buf i, hi, .found ins⟩
  | node l r ihl ihr =>
    rw [walk]
    split
    · exact ⟨[], _, Tree.self_mem_places _, bitsAt_nil buf i, hi, .cut l r (Nat.le_antisymm hi ‹_›)⟩
    · have child : ∀ b : Bool, peek buf i = b →
          (∃ bs u, (bs, u) ∈ (if b then r else l).places ∧ BitsAt buf (i + 1) bs ∧ i + 1 + bs.length ≤ bits ∧
            WalkEndsAt bits (i + 1 + bs.length) u (walk (if b then r else l) buf bits (i + 1))) →
          ∃ bs u, (bs, u) ∈ (Tree.node l r).places ∧ BitsAt buf i bs ∧ i + bs.length ≤ bits ∧
            WalkEndsAt bits (i + bs.length) u (walk (if b then r else l) buf bits (i + 1)) := by
        rintro b hb ⟨bs, u, hu, hbs, hle, hend⟩
        have hlen : i + 1 + bs.length = i + (b :: bs).length := by rw [List.length_cons]; omega
        rw [hlen] at hle hend
        exact ⟨b :: bs, u, Tree.cons_mem_places hu, bitsAt_cons.2 ⟨hb, hbs⟩, hle, hend⟩
      split
      · exact child true ‹_› (ihr (by omega))
      · exact child false (Bool.eq_false_iff.2 ‹_›) (ihl (by omega))

/-- Bits that lead to an inner node are walked to it. -/
theorem walk_to_node {bs : List Bool} {t l r : Tree} {buf : Word} {bits i : Nat} (hnode : t.follow bs = .node l r)
    (hbits : i + bs.length ≤ bits) (hbuf : BitsAt buf i bs) :
    walk t buf bits i = walk (.node l r) buf bits (i + bs.length) := by
  induction bs generalizing t i with
  | nil =>
    rw [Tree.follow] at hnode
    rw [hnode]; rfl
  | cons b bs ih =>
    rw [List.length_cons] at hbits ⊢
    obtain ⟨hhead, htail⟩ := bitsAt_cons.1 hbuf
    cases t with
    | absent => cases hnode
    | leaf ins => cases hnode
    | node l' r' =>
      have hstep := ih hnode (by omega) htail
      rw [walk, if_neg (by omega), hhead, Nat.add_comm bs.length, ← Nat.add_assoc, ← hstep]
      cases b <;> rfl

theorem Tree.follow_append (t : Tree) (bs bs' : List Bool) : t.follow (bs ++ bs') = (t.follow bs).follow bs' := by
  induction bs generalizing t with
  | nil => rw [Tree.follow]; rfl
  | cons b bs ih =>
    cases t with
    | node l r => exact ih _
    | absent | leaf ins => cases bs' <;> rfl

/-- A place above a leaf is an inner node. -/
theorem Tree.node_of_follow_leaf {t : Tree} {bs : List Bool} {ins : Instr} (h : t.follow bs = .leaf ins)
    (hbs : bs ≠ []) : ∃ l r, t = .node l r := by
  obtain ⟨b, bs, rfl⟩ := List.exists_cons_of_ne_nil hbs
  cases t with
  | node l r => exact ⟨l, r, rfl⟩
  | absent | leaf => cases h

/-! ## The three answers of `lookup` (R138) -/

theorem bufferBits_take (buf : Word) {m n : Nat} (h : m ≤ n) : (bufferBits buf n).take m = bufferBits buf m := by
  rw [bufferBits, ← List.map_take, List.take_range, Nat.min_eq_left h, bufferBits]

theorem bufferBits_prefix (buf : Word) {m n : Nat} (h : m ≤ n) : bufferBits buf m <+: bufferBits buf n := by
  rw [← bufferBits_take buf h]
  exact List.take_prefix _ _

/-- The top eight bits are those of the byte at the top of the buffer. -/
theorem topByte_eq_zero_iff (buf : Word) : buf.extractLsb' 24 8 = 0 ↔ bufferBits buf 8 = List.replicate 8 false := by
  have hbyte : bufferBits buf 8 = byteBits (buf.extractLsb' 24 8) := by
    rw [byteBits_eq]
    refine List.map_congr_left fun k hk => ?_
    have hk8 := List.mem_range.1 hk
    have hplace : 31 - k = 24 + (7 - k) := by omega
    have hin : 7 - k < 8 := by omega
    simp [peek, hplace, hin]
  have hzero : ∀ b : Byte, b = 0 ↔ byteBits b = List.replicate 8 false := by decide
  rw [hbyte, hzero]

/-- The head of the buffer, as the tables have it, and what `lookup` answers to it. -/
inductive LookupCase (c : Color) (buf : Word) (bits : Nat) : Prop
  /-- A code word stands at the head. -/
  | found (r : T4Row) (hr : r ∈ treeRows c) (hlen : r.len ≤ bits) (h : bufferBits buf r.len = codeBits r.len r.value)
    (ha : lookup c buf bits = .ok (r.instr, r.len))
  /-- The valid bits end inside a code word (`Exhausted`). -/
  | cut (r : T4Row) (hr : r ∈ treeRows c) (hlen : bits < r.len)
    (h : bufferBits buf bits = (codeBits r.len r.value).take bits) (ha : lookup c buf bits = .error .codeCutShort)
  /-- Eight zeros stand at the head (`Invalid`). -/
  | lost (hlen : 8 ≤ bits) (h : buf.extractLsb' 24 8 = 0) (ha : lookup c buf bits = .error .unrecognisedCode)

theorem lookup_cases (c : Color) (buf : Word) (bits : Nat) : LookupCase c buf bits := by
  obtain ⟨bs, u, hu, hbs, hle, hend⟩ := walk_ends (treeOf c) buf (Nat.zero_le bits)
  have htab := places_in_tables c _ hu
  have hbits := bitsAt_zero_iff.1 hbs
  rw [Nat.zero_add] at hle hend
  generalize ha : walk (treeOf c) buf bits 0 = a at hend
  cases hend with
  | found ins =>
    obtain ⟨r, hr, hrow⟩ := List.any_eq_true.1 htab
    obtain ⟨hins, hcode⟩ := Bool.and_eq_true_iff.1 hrow
    obtain rfl := eq_of_beq hins
    obtain rfl := eq_of_beq hcode
    rw [codeBits_length] at hle hbits ha
    exact .found r hr hle hbits ha
  | cut l r h =>
    obtain ⟨r, hr, hrow⟩ := List.any_eq_true.1 htab
    obtain ⟨hlen, hcode⟩ := Bool.and_eq_true_iff.1 hrow
    subst h
    exact .cut r hr (of_decide_eq_true hlen) (hbits.trans (eq_of_beq hcode).symm) ha
  | lost =>
    obtain rfl := eq_of_beq htab
    exact .lost hle ((topByte_eq_zero_iff buf).2 hbits) ha

/-- The valid bits are the beginning of a code word that needs more: `Exhausted`. -/
theorem lookup_cut {c : Color} {r : T4Row} {buf : Word} {bits : Nat} (hr : r ∈ treeRows c) (hlen : bits < r.len)
    (h : bufferBits buf bits = (codeBits r.len r.value).take bits) : lookup c buf bits = .error .codeCutShort := by
  have hleaf := follow_row c r hr
  rw [← List.take_append_drop bits (codeBits r.len r.value), Tree.follow_append, ← h] at hleaf
  obtain ⟨l, r', hnode⟩ := Tree.node_of_follow_leaf hleaf
    (List.ne_nil_of_length_pos (by rw [List.length_drop, codeBits_length]; omega))
  have hbuf : BitsAt buf 0 (bufferBits buf bits) := bitsAt_zero_iff.2 (by rw [bufferBits_length])
  rw [lookup, walk_to_node hnode (by rw [bufferBits_length]; omega) hbuf, bufferBits_length, walk, if_pos (by omega)]

/-- In both trees, seven zeros lead to an inner node without a left child (R155). -/
theorem follow_sevenZeros : ∀ c : Color, ∃ r, (treeOf c).follow (List.replicate 7 false) = .node .absent r
  | .white => ⟨_, rfl⟩
  | .black => ⟨_, rfl⟩

/-- Eight zeros begin no code word: `Invalid`. -/
theorem lookup_eightZeros (c : Color) {buf : Word} {bits : Nat} (hlen : 8 ≤ bits) (h : buf.extractLsb' 24 8 = 0) :
    lookup c buf bits = .error .unrecognisedCode := by
  rw [topByte_eq_zero_iff] at h
  obtain ⟨r, hnode⟩ := follow_sevenZeros c
  have hseven : bufferBits buf 7 = List.replicate 7 false := by
    rw [← bufferBits_take buf (by omega : 7 ≤ 8), h]; rfl
  have heighth : peek buf 7 = false := peek_of_prefix (bits := 8) (by rw [h]) 7 (by decide)
  have hbuf : BitsAt buf 0 (List.replicate 7 false) := bitsAt_zero_iff.2 hseven
  have hseventh : 0 + (List.replicate 7 false).length = 7 := rfl
  rw [lookup, walk_to_node hnode (by rw [hseventh]; omega) hbuf, hseventh, walk, if_neg (by omega), heighth]
  rfl

/-- Settles O5: each answer to the head of the buffer in `lookup_cases`, and back by a walk along the bits of the head. -/
theorem lookupAnswersLeafExhaustedOrInvalid : Obligations.LookupAnswersLeafExhaustedOrInvalid := by
  intro c buf bits _
  have hcases := lookup_cases c buf bits
  refine ⟨fun i len => ⟨fun h => ?_, ?_⟩, ⟨fun h => ?_, ?_⟩, ⟨fun h => ?_, ?_⟩⟩
  · cases hcases with
    | found r hr hlen hhead ha =>
      rw [ha] at h
      cases h
      exact ⟨r, hr, rfl, rfl, hlen, hhead⟩
    | cut _ _ _ _ ha | lost _ _ ha => rw [ha] at h; cases h
  · rintro ⟨r, hr, rfl, rfl, hlen, hhead⟩
    exact lookup_row hr (hhead ▸ bufferBits_prefix buf hlen)
  · cases hcases with
    | cut r hr hlen hhead ha => exact ⟨r, hr, hlen, hhead⟩
    | found _ _ _ _ ha | lost _ _ ha => rw [ha] at h; cases h
  · rintro ⟨r, hr, hlen, hhead⟩
    exact lookup_cut hr hlen hhead
  · cases hcases with
    | lost hlen hzero ha => exact ⟨hlen, hzero⟩
    | found _ _ _ _ ha | cut _ _ _ _ ha => rw [ha] at h; cases h
  · rintro ⟨hlen, hzero⟩
    exact lookup_eightZeros c hlen hzero

end Sys2Proof
end

section
/-! SUPPORT. The code words of a line as instructions, class by class: the state that each leaves (40_g3_huffman.md R141 to R147,
R158). -/

namespace Sys2Proof.Machine

/-! ## Rows as instructions -/

/-- A row of either colour's tables is run as a token. -/
theorem exec_row {c : Color} {row : T4Row} (h : row ∈ treeRows c) (s : State) :
    exec row.instr s = execToken row.instr s :=
  (execToken_eq_exec (token_of_row c row h) s).symm

theorem exec_whiteTerminal {row : T4Row} (h : row ∈ whiteTerminal) (s : State) :
    exec row.instr s = terminalCode .white row.len row.run s :=
  (exec_row (c := .white) (List.mem_append_left _ (List.mem_append_left _ h)) s).trans (execToken_whiteTerminal row h s)

theorem exec_blackTerminal {row : T4Row} (h : row ∈ blackTerminal) (s : State) :
    exec row.instr s = terminalCode .black row.len row.run s :=
  (exec_row (c := .black) (List.mem_append_left _ (List.mem_append_left _ h)) s).trans (execToken_blackTerminal row h s)

theorem exec_whiteMakeup {row : T4Row} (h : row ∈ whiteMakeup) (s : State) :
    exec row.instr s = makeupCode .white row.len row.run s :=
  (exec_row (c := .white) (List.mem_append_left _ (List.mem_append_right _ h)) s).trans (execToken_whiteMakeup row h s)

theorem exec_blackMakeup {row : T4Row} (h : row ∈ blackMakeup) (s : State) :
    exec row.instr s = makeupCode .black row.len row.run s :=
  (exec_row (c := .black) (List.mem_append_left _ (List.mem_append_right _ h)) s).trans (execToken_blackMakeup row h s)

theorem exec_sharedMakeup {row : T4Row} (h : row ∈ sharedMakeup) (s : State) :
    exec row.instr s = sharedCode row.len row.run s :=
  (exec_row (c := .white) (List.mem_append_right _ h) s).trans (execToken_sharedMakeup row h s)

/-! ## Terminal codes (R141, R142, R144) -/

section
variable {s : State} {r : G3Run}

theorem terminalCode_of_run {c : Color} (hr : s.run = .g3 r) (hc : r.color = c) (len n : Nat) :
    terminalCode c len n s = .next (endRun c (satAdd r.acc n) (consume len s)) := by
  rw [terminalCode, hr]
  exact if_pos hc

/-- The bytes of `LB` after a terminal code: those of the run are at the level of its colour. -/
theorem byteAt_endRun_consume (c : Color) (len acc : Nat) (s : State) (a : Nat) :
    (endRun c acc (consume len s)).byteAt .lb a =
      if s.g3X.toNat ≤ a ∧ a < s.g3X.toNat + min acc (s.g3Width.toNat - s.g3X.toNat) then pixelLevel s c
      else s.byteAt .lb a := by
  rw [byteAt_endRun, endRun_g3X_toNat]
  rfl

theorem pixelLevel_white (s : State) :
    pixelLevel s .white = if s.g3Ctrl.getLsbD 0 then ~~~s.cfg.whiteBase else s.cfg.whiteBase := by
  rw [pixelLevel_eq]
  cases s.g3Ctrl.getLsbD 0 <;> simp

theorem pixelLevel_black (s : State) :
    pixelLevel s .black = if s.g3Ctrl.getLsbD 0 then s.cfg.whiteBase else ~~~s.cfg.whiteBase := by
  rw [pixelLevel_eq]
  simp

/-! ## Make-up codes (R145, R146, R158) -/

theorem makeupCode_of_run {c : Color} (hr : s.run = .g3 r) (hc : r.color = c) (len n : Nat) :
    makeupCode c len n s = .next (makeup len n r s) := by
  rw [makeupCode, hr]
  exact if_pos hc

theorem sharedCode_of_run (hr : s.run = .g3 r) (len n : Nat) : sharedCode len n s = .next (makeup len n r s) := by
  rw [sharedCode, hr]

end

/-! ## The statements on code words -/

/-- Settles O19: a terminal code of the white tree consumes its bits and ends the run. -/
theorem whiteTerminalCodesEndTheRun : Obligations.WhiteTerminalCodesEndTheRun := by
  refine ⟨rfl, rfl, fun row hrow s r hr hc => ?_⟩
  refine ⟨_, (exec_whiteTerminal hrow s).trans (terminalCode_of_run hr hc row.len row.run), rfl, fun a => ?_⟩
  rw [byteAt_endRun_consume, pixelLevel_white]
  rfl

/-- Settles O20: a terminal code of the black tree consumes its bits and ends the run. -/
theorem blackTerminalCodesEndTheRun : Obligations.BlackTerminalCodesEndTheRun := by
  refine ⟨rfl, rfl, fun row hrow s r hr hc => ?_⟩
  refine ⟨_, (exec_blackTerminal hrow s).trans (terminalCode_of_run hr hc row.len row.run), rfl, fun a => ?_⟩
  rw [byteAt_endRun_consume, pixelLevel_black]
  rfl

/-- Settles O21: a make-up code of the colour's tree consumes its bits and lengthens the run. -/
theorem makeupCodesLengthenTheRun : Obligations.MakeupCodesLengthenTheRun := by
  refine ⟨⟨rfl, rfl, fun row hrow s r hr hc => ?_⟩, ⟨rfl, rfl, fun row hrow s r hr hc => ?_⟩⟩
  · rw [exec_whiteMakeup hrow, makeupCode_of_run hr hc, makeup, hc]
    rfl
  · rw [exec_blackMakeup hrow, makeupCode_of_run hr hc, makeup, hc]
    rfl

/-- Settles O22: a shared make-up code does the same in either colour. -/
theorem sharedMakeupCodesLengthenTheRun : Obligations.SharedMakeupCodesLengthenTheRun := by
  refine ⟨rfl, rfl, fun row hrow s r hr => ?_⟩
  rw [exec_sharedMakeup hrow, sharedCode_of_run hr]
  rfl

/-- Settles O23: the two cases of EOL before a run, by the column. -/
theorem eolIsSkippedAtLineStartElseEndsTheLine : Obligations.EolIsSkippedAtLineStartElseEndsTheLine := by
  intro s r hr hm
  have hexec : exec .eol s = .next (if s.g3X = 0 then consume 12 s else halt .ok earlyFlags (consume 12 s)) :=
    execToken_eol hr hm
  constructor
  · intro hx
    have hzero : s.g3X = 0 := BitVec.eq_of_toNat_eq hx
    rw [hexec, if_pos hzero]
    rfl
  · intro hx
    have hnonzero : s.g3X ≠ 0 := fun e => by simp [e] at hx
    rw [hexec, if_neg hnonzero]
    rfl

end Sys2Proof.Machine
end

section
/-! SUPPORT. One turn of a line from the head of its buffer: which code word it runs, and how it ends the line where it runs none,
with what the scan for the next EOL drops (40_g3_huffman.md R138 to R140, R148, R149). -/

namespace Sys2Proof.Machine

/-! ## The turn of a line, from the head of the buffer (R140) -/

section
variable {s : State} {r : G3Run}

theorem fetchToken_line (hr : s.run = .g3 r) : fetchToken s = fetchG3 r s := by rw [fetchToken, hr]

theorem line_running (hr : s.run = .g3 r) : s.run ≠ .idle := by rw [hr]; exact Running.noConfusion

theorem step_of_fetchG3_instr {i : Instr} {t : State} (hr : s.run = .g3 r) (hh : s.host.head? ≠ some .reset)
    (h : fetchG3 r s = .instr i t) : step s = exec i t := by
  rw [step, fetch_running (line_running hr) hh, fetchToken_line hr, h]

theorem step_of_fetchG3_done {t : State} (hr : s.run = .g3 r) (hh : s.host.head? ≠ some .reset)
    (h : fetchG3 r s = .done t) : step s = .next t :=
  step_of_turn (line_running hr) hh (.inl ((fetchToken_line hr).trans h))

theorem atCode_eq (hr : s.run = .g3 r) :
    atCode r s = if r.midRun then refill s else { refill s with run := .g3 { r with acc := 0 } } := by
  have hrun : (refill s).run = .g3 r := by rw [refill_frame s]; exact hr
  unfold atCode lineRun
  split
  · rw [← hrun]
  · rfl

theorem fetchG3_complete (hm : r.midRun = false) (hx : s.g3Width.toNat ≤ s.g3X.toNat) :
    fetchG3 r s = .done (raise .ok s) := by
  rw [fetchG3, hm, if_neg Bool.false_ne_true, if_pos hx]

theorem fetchG3_noBits (hm : r.midRun = false) (hx : s.g3X.toNat < s.g3Width.toNat)
    (hbits : (refill s).g3Bits.toNat = 0) : fetchG3 r s = .done (raise .truncated (atCode r s)) := by
  rw [fetchG3, hm, if_neg Bool.false_ne_true, if_neg (by omega), if_pos hbits, raise_atCode]

/-- Inside a run, and before one where the line is incomplete and a bit is left, the loop looks a code up. -/
theorem fetchG3_looksUp (hr : s.run = .g3 r)
    (h : r.midRun = false → s.g3X.toNat < s.g3Width.toNat ∧ (refill s).g3Bits.toNat ≠ 0) :
    fetchG3 r s = nextCode (lineRun r) (atCode r s) := by
  rw [atCode_eq hr]
  unfold fetchG3 lineRun
  split
  · rfl
  · rename_i hm
    obtain ⟨hx, hbits⟩ := h (Bool.eq_false_iff.2 hm)
    rw [if_neg (by omega), if_neg hbits]

/-! ## The answers at the head of the refilled buffer (R138, R148, R149) -/

/-- The next token of a line, at the head of the refilled buffer. -/
def lineHead (r : G3Run) (s : State) : Except Reject (Instr × Nat) :=
  decodeG3 r.color (!r.midRun) (refill s).g3Buf (refill s).g3Bits.toNat

theorem decodeG3_atCode (r : G3Run) (s : State) :
    decodeG3 (lineRun r).color (!(lineRun r).midRun) (atCode r s).g3Buf (atCode r s).g3Bits.toNat = lineHead r s := by
  rw [lineRun_color, lineRun_midRun, atCode_g3Buf, atCode_g3Bits, lineHead]

theorem nextCode_of_ok {i : Instr} {len : Nat} (h : lineHead r s = .ok (i, len)) :
    nextCode (lineRun r) (atCode r s) = .instr i (atCode r s) := by
  rw [nextCode, decodeG3_atCode, h]

theorem nextCode_of_cut (h : lineHead r s = .error .codeCutShort) :
    nextCode (lineRun r) (atCode r s) = .done (raise .truncated (atCode r s)) := by
  rw [nextCode, decodeG3_atCode, h]

theorem nextCode_of_unrecognised (h : lineHead r s = .error .unrecognisedCode) :
    nextCode (lineRun r) (atCode r s) = .done (abortLine (atCode r s)) := by
  rw [nextCode, decodeG3_atCode, h]

/-- Without a valid bit every code word is cut short. -/
theorem decodeG3_noBits (c : Color) (start : Bool) (buf : Word) :
    decodeG3 c start buf 0 = .error .codeCutShort := by
  have hlookup : lookup c buf 0 = .error .codeCutShort := by
    cases lookup_cases c buf 0 with
    | found r hr hlen => have := row_lengths c r hr; omega
    | cut _ _ _ _ ha => exact ha
    | lost hlen => omega
  have heol : atEol buf 0 = false := rfl
  rw [decodeG3, heol, Bool.and_false, if_neg Bool.false_ne_true, hlookup]

/-- Settles O10: where the loop looks a code up and finds one, the step runs it. -/
theorem stepRunsTheNextCodeWord : Obligations.StepRunsTheNextCodeWord := by
  intro s r i len hr hh hin hhead
  rw [← atCode_eq hr]
  exact step_of_fetchG3_instr hr hh ((fetchG3_looksUp hr hin).trans (nextCode_of_ok hhead))

/-- Where the bits left end inside a code word, or none is left, the line is truncated. -/
theorem fetchG3_of_cut (hr : s.run = .g3 r) (hin : r.midRun = true ∨ s.g3X.toNat < s.g3Width.toNat)
    (h : lineHead r s = .error .codeCutShort) : fetchG3 r s = .done (raise .truncated (atCode r s)) := by
  by_cases hnone : r.midRun = false ∧ (refill s).g3Bits.toNat = 0
  · obtain ⟨hm, hbits⟩ := hnone
    exact fetchG3_noBits hm (hin.resolve_left (by simp [hm])) hbits
  · rw [fetchG3_looksUp hr fun hm => ⟨hin.resolve_left (by simp [hm]), fun hbits => hnone ⟨hm, hbits⟩⟩]
    exact nextCode_of_cut h

/-- An unrecognised code aborts the line. -/
theorem fetchG3_of_unrecognised (hr : s.run = .g3 r) (hin : r.midRun = true ∨ s.g3X.toNat < s.g3Width.toNat)
    (h : lineHead r s = .error .unrecognisedCode) : fetchG3 r s = .done (abortLine (atCode r s)) := by
  have hbits : (refill s).g3Bits.toNat ≠ 0 := fun hbits => by
    rw [lineHead, hbits, decodeG3_noBits] at h
    cases h
  rw [fetchG3_looksUp hr fun hm => ⟨hin.resolve_left (by simp [hm]), hbits⟩]
  exact nextCode_of_unrecognised h

end

/-! ## States that differ in the stream and the bit buffer -/

/-- The states differ at most in the stream cursor, the bit buffer and the run in progress. -/
def BitsMoved (s u : State) : Prop := u = { s with inPos := u.inPos, g3Buf := u.g3Buf, g3Bits := u.g3Bits, run := u.run }

theorem BitsMoved.trans {s t u : State} (h : BitsMoved s t) (k : BitsMoved t u) : BitsMoved s u := by
  unfold BitsMoved at *
  rw [k, h]

theorem bitsMoved_atCode (r : G3Run) (s : State) : BitsMoved s (atCode r s) := by
  rw [atCode, refill_frame s]; rfl

theorem bitsMoved_scanEol (s : State) : BitsMoved s (scanEol s).1 := by
  rw [scanEol, scanEolUpTo_frame]; rfl

theorem BitsMoved.halt {s u : State} (h : BitsMoved s u) (c : ResultCode) (f : ResultFlags) :
    halt c f u =
      { s with inPos := u.inPos, g3Buf := u.g3Buf, g3Bits := u.g3Bits, run := .idle, status := endStatus c f } := by
  unfold BitsMoved at h
  rw [h]; rfl

theorem halt_bufferLegal {s : State} (h : s.bufferLegal) (c : ResultCode) (f : ResultFlags) : (halt c f s).bufferLegal :=
  (bufferLegal_congr rfl rfl).2 h

theorem halt_pendingBits (c : ResultCode) (f : ResultFlags) (s : State) : (halt c f s).pendingBits = s.pendingBits := rfl

theorem BitsMoved.inLen {s u : State} (h : BitsMoved s u) : u.inLen = s.inLen := by
  unfold BitsMoved at h
  rw [h]

/-! ## What the scan for an EOL drops (R139) -/

theorem byteBits_length (b : Byte) : (byteBits b).length = 8 := codeBits_length 8 b.toNat

theorem streamBitsFrom_length (s : State) (p e : Nat) : (streamBitsFrom s p e).length = 8 * (e - p) := by
  simp [streamBitsFrom, List.length_flatMap, byteBits_length, Nat.mul_comm]

theorem pendingBits_length (s : State) : s.pendingBits.length = bitsLeft s := by
  rw [pendingBits_eq, List.length_append, bufferBits_length, streamBitsFrom_length, bitsLeft, Nat.add_comm]

section
variable {s : State}

/-- After a refill the buffer is at an EOL exactly when the bits not yet decoded begin with one. -/
theorem refill_atEol_iff (hs : s.bufferLegal) (hp : s.inPos.toNat ≤ s.inLen.toNat) :
    (refill s).atEol = true ↔ eolBits <+: s.pendingBits := by
  rw [State.atEol, atEol_iff]
  constructor
  · intro h
    rw [← refill_pendingBits hs, pendingBits_eq]
    exact h.trans (List.prefix_append _ _)
  · exact prefix_refill hs hp (by decide)

/-- With the bits of an EOL still ahead, a refill brings at least as many into the buffer. -/
theorem twelve_le_refill {dropped rest : List Bool} (hs : s.bufferLegal) (hp : s.inPos.toNat ≤ s.inLen.toNat)
    (h : s.pendingBits = dropped ++ eolBits ++ rest) : 12 ≤ (refill s).g3Bits.toNat := by
  have hahead : 12 ≤ s.pendingBits.length := by
    rw [h, List.length_append, List.length_append, eolBits_length]
    omega
  have hlen : (s.pendingBits.take 12).length = 12 := by rw [List.length_take, Nat.min_eq_left hahead]
  have hbits := length_le_of_prefix (prefix_refill hs hp (by omega) (List.take_prefix 12 s.pendingBits))
  rwa [hlen] at hbits

theorem consume_refill_inPos_le (hp : s.inPos.toNat ≤ s.inLen.toNat) (k : Nat) :
    (consume k (refill s)).inPos.toNat ≤ (consume k (refill s)).inLen.toNat := by
  have hlen : (refill s).inLen = s.inLen := by rw [refill_frame s]
  rw [consume_inPos, consume_inLen, hlen]
  exact (refill_inPos hp).2

theorem consume_refill_pendingBits (hs : s.bufferLegal) {k : Nat} (hk : k ≤ (refill s).g3Bits.toNat) :
    (consume k (refill s)).pendingBits = s.pendingBits.drop k := by
  rw [consume_pendingBits (refill_bufferLegal hs) hk, refill_pendingBits hs]

/-- A scan with turns enough finds the first EOL, and leaves the bits after it. -/
theorem scanEolUpTo_found {dropped rest : List Bool} {n : Nat} (hs : s.bufferLegal) (hp : s.inPos.toNat ≤ s.inLen.toNat)
    (h : s.pendingBits = dropped ++ eolBits ++ rest)
    (hfirst : ∀ k, k < dropped.length → ¬eolBits <+: s.pendingBits.drop k) (hn : dropped.length < n) :
    (scanEolUpTo n s).2 = true ∧ (scanEolUpTo n s).1.pendingBits = rest := by
  induction dropped generalizing s n with
  | nil =>
    obtain ⟨n, rfl⟩ := Nat.exists_eq_add_one_of_ne_zero (Nat.ne_of_gt hn)
    have hbits : 12 ≤ (refill s).g3Bits.toNat := twelve_le_refill hs hp h
    have heol : (refill s).atEol = true := (refill_atEol_iff hs hp).2 ⟨rest, h.symm⟩
    rw [scanEolUpTo, if_neg (by omega), if_pos heol]
    refine ⟨rfl, ?_⟩
    rw [consume_refill_pendingBits hs hbits, h]
    exact List.drop_left' eolBits_length
  | cons b dropped ih =>
    obtain ⟨n, rfl⟩ := Nat.exists_eq_add_one_of_ne_zero (Nat.ne_zero_of_lt hn)
    have hbits : 12 ≤ (refill s).g3Bits.toNat := twelve_le_refill hs hp h
    have hnot : ¬(refill s).atEol = true := by
      rw [refill_atEol_iff hs hp]
      exact hfirst 0 (Nat.succ_pos _)
    have hrest := consume_refill_pendingBits hs (k := 1) (by omega)
    rw [scanEolUpTo, if_neg (by omega), if_neg hnot]
    refine ih (consume_bufferLegal (refill_bufferLegal hs)) (consume_refill_inPos_le hp 1) ?_ (fun k hk => ?_) ?_
    · rw [hrest, h]; rfl
    · rw [hrest, List.drop_drop, Nat.add_comm]
      exact hfirst (k + 1) (Nat.succ_lt_succ hk)
    · exact Nat.lt_of_succ_lt_succ hn

/-- A scan of bits without an EOL finds none. -/
theorem scanEolUpTo_none (hs : s.bufferLegal) (hp : s.inPos.toNat ≤ s.inLen.toNat)
    (h : ∀ k, ¬eolBits <+: s.pendingBits.drop k) (n : Nat) : (scanEolUpTo n s).2 = false := by
  induction n generalizing s with
  | zero => rfl
  | succ n ih =>
    rw [scanEolUpTo]
    split
    · rfl
    · have hnot : ¬(refill s).atEol = true := by
        rw [refill_atEol_iff hs hp]
        exact h 0
      rw [if_neg hnot]
      refine ih (consume_bufferLegal (refill_bufferLegal hs)) (consume_refill_inPos_le hp 1) fun k => ?_
      rw [consume_refill_pendingBits hs (by omega), List.drop_drop]
      exact h _

end

/-! ## The line ends (R140, R148, R149) -/

section
variable {s : State} {r : G3Run}

theorem atCode_inPos_le (r : G3Run) (hp : s.inPos.toNat ≤ s.inLen.toNat) :
    (atCode r s).inPos.toNat ≤ (atCode r s).inLen.toNat := by
  rw [(bitsMoved_atCode r s).inLen, atCode_inPos]
  exact (refill_inPos hp).2

/-- Where no bit is left, a code word is cut short. -/
theorem lineHead_of_noPending (hs : s.bufferLegal) (h : s.pendingBits = []) :
    lineHead r s = .error .codeCutShort := by
  have hleft : bitsLeft (refill s) = 0 := by rw [← pendingBits_length, refill_pendingBits hs, h]; rfl
  have hbits : (refill s).g3Bits.toNat = 0 := by rw [bitsLeft] at hleft; omega
  rw [lineHead, hbits, decodeG3_noBits]

/-- A line cut short ends with every bit of its stream in the buffer. -/
theorem inPos_of_cut (hp : s.inPos.toNat ≤ s.inLen.toNat) (h : lineHead r s = .error .codeCutShort) :
    (atCode r s).inPos = s.inLen := by
  have hbits : (atCode r s).g3Bits.toNat < 13 := by
    rw [atCode_g3Bits]
    exact decodeG3_codeCutShort h
  rw [atCode_inPos_of_bits hp hbits, (bitsMoved_atCode r s).inLen]

/-- An aborted line after an EOL was found. -/
theorem abortLine_of_found (h : (scanEol s).2 = true) : abortLine s = halt .ok badFlags (scanEol s).1 := by
  rw [abortLine_eq, h]; rfl

/-- An aborted line whose stream holds no EOL. -/
theorem abortLine_of_notFound {u : State} (hmoved : BitsMoved s u) (h : (scanEol u).2 = false)
    (hp : u.inPos.toNat ≤ u.inLen.toNat) :
    abortLine u =
      { s with inPos := s.inLen, g3Buf := 0, g3Bits := 0, run := .idle, status := endStatus .truncated badFlags } := by
  obtain ⟨hbuf, hbits⟩ := scanEolUpTo_notFound h
  have hpos : (scanEol u).1.inPos = u.inLen := scanEolUpTo_notFound_inPos h (Nat.lt_succ_self _) hp
  have hend : abortLine u = halt .truncated badFlags (scanEol u).1 := by rw [abortLine_eq, h]; rfl
  rw [hend, (hmoved.trans (bitsMoved_scanEol u)).halt, hpos, hmoved.inLen, scanEol, hbuf, hbits]

end

/-- Settles O60: the complete line, the line cut short, and the scan after an unrecognised code. -/
theorem lineEndsWhereNoCodeWordIsRead : Obligations.LineEndsWhereNoCodeWordIsRead := by
  intro s r hr hh hs hp eol head
  have hmoved := bitsMoved_atCode r s
  have hlegal : (atCode r s).bufferLegal := atCode_bufferLegal hs
  have hpending : (atCode r s).pendingBits = s.pendingBits := atCode_pendingBits hs
  have hpos := atCode_inPos_le r hp
  refine ⟨fun hm hx => step_of_fetchG3_done hr hh (fetchG3_complete hm hx),
    fun hin => ⟨fun hcut => ?_, fun hbad => ⟨?_, ?_⟩⟩⟩
  · have hhead : lineHead r s = .error .codeCutShort := hcut.elim (lineHead_of_noPending hs) id
    refine ⟨_, step_of_fetchG3_done hr hh (fetchG3_of_cut hr hin hhead), ?_, ?_, ?_⟩
    · rw [raise, hmoved.halt, inPos_of_cut hp hhead]
    · exact halt_bufferLegal hlegal _ _
    · rw [raise, halt_pendingBits, hpending]
  · intro dropped rest hbits hfirst
    have henough : dropped.length < bitsLeft (atCode r s) + 1 := by
      rw [← pendingBits_length, hpending, hbits, List.append_assoc, List.length_append]
      omega
    obtain ⟨hfound, hrest⟩ := scanEolUpTo_found hlegal hpos (hpending.trans hbits) (by rwa [hpending]) henough
    have hscan := hmoved.trans (bitsMoved_scanEol (atCode r s))
    refine ⟨_, step_of_fetchG3_done hr hh ((fetchG3_of_unrecognised hr hin hbad).trans
      (congrArg Fetched.done (abortLine_of_found hfound))), ?_, ?_, ?_, ?_⟩
    · rw [hscan.halt, badFlags]
    · exact halt_bufferLegal (scanEolUpTo_bufferLegal _ hlegal) _ _
    · rw [halt_inPos, ← hmoved.inLen]
      exact ((onLine_scanEol (atCode r s)).further.2 hpos).2
    · rw [halt_pendingBits]
      exact hrest
  · intro hnone
    have hnotFound : (scanEol (atCode r s)).2 = false :=
      scanEolUpTo_none hlegal hpos (by rwa [hpending]) _
    rw [step_of_fetchG3_done hr hh (fetchG3_of_unrecognised hr hin hbad), abortLine_of_notFound hmoved hnotFound hpos]
    rfl

end Sys2Proof.Machine
end

section
/-! SUPPORT. What one turn of a decode can be: a test of its loop that ends it, or a command of the stream from its head on
(43_rle.md R424 to R434); the statement on the escapes. -/

namespace Sys2Proof.Machine

/-! ## The escapes (R428 to R430) -/

/-- `DELTA` moves the cursor with both its bytes there, and does not with one missing. -/
theorem rleDelta_eq (s : State) :
    rleDelta s =
      if 2 ≤ bytesToEnd s then moveCursor (streamByte s 0).toNat (streamByte s 1).toNat (advance 2 s)
      else finishRle .truncated { s with inPos := s.inLen } := by
  rw [← advance_bytesToEnd]
  unfold rleDelta
  obtain h | h | h : bytesToEnd s = 0 ∨ bytesToEnd s = 1 ∨ 2 ≤ bytesToEnd s := by omega
  · simp only [fetchByte_end h, h, advance_zero]; rfl
  · simp only [fetchByte_first (s := s) (by omega), fetchByte_advance_end h, h]; rfl
  · simp only [fetchByte_first (s := s) (by omega), fetchByte_advance (s := s) (j := 1) (by omega), if_pos h]

/-- Settles O33: the meaning of each escape, and for `DELTA` whether its two bytes are there. -/
theorem rleEscapesMoveTheCursorOrEndTheDecode : Obligations.RleEscapesMoveTheCursorOrEndTheDecode := by
  unfold Obligations.RleEscapesMoveTheCursorOrEndTheDecode
  intro s hr
  have hdelta : exec .delta s = .next (rleDelta s) := inRle_next.2 ⟨hr, rfl⟩
  refine ⟨inRle_next.2 ⟨hr, rfl⟩, inRle_next.2 ⟨hr, rfl⟩, fun hle => ?_, fun hle hlt => ?_⟩
  · have hpos : s.inPos.toNat ≤ s.inLen.toNat := by omega
    have hbytes : 2 ≤ bytesToEnd s := by rw [bytesToEnd_of_le hpos]; omega
    rw [hdelta, rleDelta_eq, if_pos hbytes, streamByte_of_lt hpos (by omega), streamByte_of_lt hpos (by omega)]
    rfl
  · have hbytes : ¬2 ≤ bytesToEnd s := by rw [bytesToEnd_of_le hle]; omega
    rw [hdelta, rleDelta_eq, if_neg hbytes, finishRle_eq]

/-! ## A command of the stream (R425 to R434) -/

/-- What the command of a head `a`, `b` does from the state after its head on: it draws opaque pixels, or those that the end of
the stream has left it, or it moves the cursor, or it ends the decode. -/
inductive RleCommand (a b : Byte) (s : State) : State → Prop
  | drawn (c n : Nat) (px : Nat → Pixel) (hbytes : c ≤ bytesToEnd s) (hopaque : ∀ k, (px k).a = 255) :
    RleCommand a b s (putPixels n px (advance c s))
  | cut (n : Nat) (px : Nat → Pixel) (hopaque : ∀ k, (px k).a = 255) :
    RleCommand a b s (finishRle .truncated (putPixels n px { s with inPos := s.inLen }))
  | endOfLine (ha : a = 0) (hb : b = 0) : RleCommand a b s (rleEndOfLine s)
  | endOfBitmap (ha : a = 0) (hb : b = 1) : RleCommand a b s (finishRle .ok s)
  | delta (ha : a = 0) (hb : b = 2) (hbytes : 2 ≤ bytesToEnd s) :
    RleCommand a b s (moveCursor (streamByte s 0).toNat (streamByte s 1).toNat (advance 2 s))

theorem palette_opaque (s : State) (i : Byte) : (palette s i).a = 255 := by
  unfold palette
  split <;> rfl

theorem literalPixel_opaque (m : RleMode) (s : State) (k : Nat) : (literalPixel m s k).a = 255 := by
  cases m with
  | rle8 | rle4 => exact palette_opaque s _
  | rle24 => rfl

section
variable {a b : Byte} {s t : State}

theorem rleCommand_run {c n q : Nat} {px : Nat → Pixel} (hopaque : ∀ k, (px k).a = 255) :
    RleCommand a b s
      (if c ≤ bytesToEnd s then putPixels n px (advance c s)
      else finishRle .truncated (putPixels q px (advance (bytesToEnd s) s))) := by
  split
  · exact .drawn c n px ‹_› hopaque
  · rw [advance_bytesToEnd]
    exact .cut q px hopaque

/-- An encoded run of the modes that read no more than the head. -/
theorem rleCommand_headRun {n : Nat} {px : Nat → Pixel} (hopaque : ∀ k, (px k).a = 255) :
    RleCommand a b s (putPixels n px s) := by
  have h := RleCommand.drawn (a := a) (b := b) 0 n px (Nat.zero_le (bytesToEnd s)) hopaque
  rwa [advance_zero] at h

theorem rleCommand_delta (ha : a = 0) (hb : b = 2) : RleCommand a b s (rleDelta s) := by
  rw [rleDelta_eq]
  split
  · exact .delta ha hb ‹_›
  · exact .cut 0 (fun _ => opaqueBlack) fun _ => rfl

theorem rleCommand_of_inRle {k : State → State} (h : inRle s k = .next t) (hk : RleCommand a b s (k s)) :
    RleCommand a b s t := by
  obtain ⟨-, rfl⟩ := inRle_next.1 h
  exact hk

theorem rleCommand_of_inRleMode {m : RleMode} {k : State → State} (h : inRleMode m s k = .next t)
    (hk : RleCommand a b s (k s)) : RleCommand a b s t := by
  obtain ⟨-, -, rfl⟩ := inRleMode_next.1 h
  exact hk

/-- The meaning of every head is one of the cases. -/
theorem execToken_rleCommand {m : RleMode} (h : execToken (decodeRle m a b) s = .next t) : RleCommand a b s t := by
  unfold decodeRle at h
  split at h
  · cases m with
    | rle8 => exact rleCommand_of_inRleMode (k := runRle8 a b) h (rleCommand_headRun fun _ => palette_opaque s b)
    | rle4 =>
      refine rleCommand_of_inRleMode (k := runRle4 a b) h ?_
      rw [runRle4, putNibbles_eq]
      exact rleCommand_headRun fun k => palette_opaque s (nibble b k)
    | rle24 =>
      refine rleCommand_of_inRleMode (k := runRle24 a b) h ?_
      rw [runRle24_eq]
      exact rleCommand_run (q := 0) fun _ => rfl
  rename_i ha
  have ha : a = 0 := not_not.1 ha
  split at h
  · exact rleCommand_of_inRle h (.endOfLine ha ‹_›)
  split at h
  · exact rleCommand_of_inRle h (.endOfBitmap ha ‹_›)
  split at h
  · exact rleCommand_of_inRle h (rleCommand_delta ha ‹_›)
  · cases m with
    | rle8 =>
      refine rleCommand_of_inRleMode (k := absRle8 b) h ?_
      rw [absRle8_eq]
      exact rleCommand_run (literalPixel_opaque .rle8 s)
    | rle4 =>
      refine rleCommand_of_inRleMode (k := absRle4 b) h ?_
      rw [absRle4_eq]
      exact rleCommand_run (literalPixel_opaque .rle4 s)
    | rle24 =>
      refine rleCommand_of_inRleMode (k := absRle24 b) h ?_
      rw [absRle24_eq]
      exact rleCommand_run (literalPixel_opaque .rle24 s)

end

/-! ## A turn of the loop (R424) -/

/-- What a turn of a decode at `s` can be. -/
inductive RleTurn (s : State) : State → Prop
  | rowsDone (hy : s.imgH.toNat ≤ s.rleY.toNat) : RleTurn s (finishRle .rowsDone s)
  | headCut (hy : s.rleY.toNat < s.imgH.toNat) (hlen : s.inLen.toNat < s.inPos.toNat + 2) :
    RleTurn s (finishRle .truncated { s with inPos := s.inLen })
  | command {t : State} (hy : s.rleY.toNat < s.imgH.toNat) (hlen : s.inPos.toNat + 2 ≤ s.inLen.toNat)
    (h : RleCommand (s.byteAt .input s.inPos.toNat) (s.byteAt .input (s.inPos.toNat + 1)) { s with inPos := s.inPos + 2 } t) :
    RleTurn s t

theorem rle_turn_cases {s t : State} (hs : Decoding s) (h : Turn s t) : RleTurn s t := by
  have hfetch : fetchToken s = fetchRle s := by rw [fetchToken, hs.run]
  obtain ⟨m, hm⟩ := Option.isSome_iff_exists.1 hs.mode
  by_cases hy : s.imgH.toNat ≤ s.rleY.toNat
  · rw [turn_of_done (hfetch.trans (fetchRle_rowsDone hy)) h]
    exact .rowsDone hy
  have hy : s.rleY.toNat < s.imgH.toNat := Nat.lt_of_not_le hy
  by_cases hlen : s.inPos.toNat + 2 ≤ s.inLen.toNat
  · have hhead := hfetch.trans (fetchRle_head hy hm hlen)
    obtain hdone | ⟨i, u, hinstr, hexec⟩ := h
    · cases hhead.symm.trans hdone
    · cases hhead.symm.trans hinstr
      exact .command hy hlen (execToken_rleCommand hexec)
  · have hlen : s.inLen.toNat < s.inPos.toNat + 2 := Nat.lt_of_not_le hlen
    rw [turn_of_done (hfetch.trans (fetchRle_truncated hy hm hs.inPos hlen)) h]
    exact .headCut hy hlen

end Sys2Proof.Machine
end

section
/-! SUPPORT. A decode from its pre-fill to its end: the alpha of every pixel of its frame (43_rle.md R421 to R423, R437) and how
it ends (R424, R429, R434 to R436); the two statements on the whole command. -/

namespace Sys2Proof.Machine

/-! ## The pre-fill (R421, R437) -/

theorem Memory.read_fillPixels (m : Memory) (n : Nat) (p : Pixel) (x : Nat) :
    (m.fillPixels n p).read x = if x < 4 * n then p.bytes[x % 4]? else m.read x := by
  induction n with
  | zero => rw [if_neg (by omega)]; rfl
  | succ n ih =>
    have hturn : m.fillPixels (n + 1) p = (m.fillPixels n p).writePixel (4 * n) p := rfl
    rw [hturn, Memory.read_writePixel, ih]
    by_cases hx : 4 * n ≤ x ∧ x < 4 * n + 4
    · have hmod : x - 4 * n = x % 4 := by omega
      rw [if_pos hx, if_pos (by omega), hmod]
    · have hiff : x < 4 * (n + 1) ↔ x < 4 * n := by omega
      rw [if_neg hx]
      simp only [hiff]

/-- At the start of a decode every pixel of the frame has the fill colour. -/
theorem byteAt_startRle (s : State) (a : Nat) :
    (startRle s).byteAt .fb a =
      if a < 4 * (s.imgW.toNat * s.imgH.toNat) then (rleFill s).bytes.getD (a % 4) 0 else s.byteAt .fb a := by
  have hfb : (startRle s).fb = s.fb.fillPixels (s.imgW.toNat * s.imgH.toNat) (rleFill s) := rfl
  rw [byteAt_fb, hfb, Memory.read_fillPixels]
  split
  · have hlen : a % 4 < (rleFill s).bytes.length := Nat.mod_lt a (by decide)
    rw [List.getElem?_eq_getElem hlen, List.getD_eq_getElem?_getD, List.getElem?_eq_getElem hlen]
    rfl
  · rfl

theorem rleFill_of_not_leave {s : State} (h : s.rleCtrl.getLsbD 3 = false) : rleFill s = { r := 0, g := 0, b := 0, a := 0 } := by
  rw [rleFill, rleLeave_eq, h, if_neg Bool.false_ne_true]

theorem rleFill_of_leave {s : State} (h : s.rleCtrl.getLsbD 3 = true) :
    rleFill s = if s.rleMode = some .rle24 then opaqueBlack else palette s 0 := by
  rw [rleFill, rleLeave_eq, h, if_pos rfl]

/-! ## The alpha of the pixels (R422, R435, R436) -/

/-- Pixel `p` of the frame is opaque, or transparent black with `LEAVE` = 0. -/
def State.opaqueOrClear (s : State) (p : Nat) : Prop :=
  s.byteAt .fb (4 * p + 3) = 255 ∨ (s.rleCtrl.getLsbD 3 = false ∧ ∀ c, c < 4 → s.byteAt .fb (4 * p + c) = 0)

theorem opaqueOrClear_startRle (s : State) {p : Nat} (hp : p < s.imgW.toNat * s.imgH.toNat) :
    (startRle s).opaqueOrClear p := by
  have hbyte : ∀ c, c < 4 → (startRle s).byteAt .fb (4 * p + c) = (rleFill s).bytes.getD c 0 := fun c hc => by
    have hmod : (4 * p + c) % 4 = c := by omega
    rw [byteAt_startRle, if_pos (by omega), hmod]
  cases hleave : s.rleCtrl.getLsbD 3 with
  | false =>
    refine .inr ⟨hleave, fun c hc => ?_⟩
    rw [hbyte c hc, rleFill_of_not_leave hleave]
    revert c
    decide
  | true =>
    left
    rw [hbyte 3 (by omega), rleFill_of_leave hleave]
    split
    · rfl
    · exact palette_opaque s 0

/-- Pixels are put whole: an opaque one makes its place opaque and leaves every other as it is. -/
theorem opaqueOrClear_put {px : Pixel} (hopaque : px.a = 255) {s : State} {p : Nat} (h : s.opaqueOrClear p) :
    (put px s).opaqueOrClear p := by
  obtain ⟨q, hq⟩ : ∃ q, s.cursorAddr = 4 * q := ⟨_, rfl⟩
  unfold State.opaqueOrClear
  simp only [byteAt_put, hq]
  by_cases hdrawn : (s.rleX.toNat < s.imgW.toNat ∧ s.rleY.toNat < s.imgH.toNat) ∧ p = q
  · obtain ⟨hin, rfl⟩ := hdrawn
    left
    rw [if_pos ⟨hin, by omega, by omega⟩, Nat.add_sub_cancel_left]
    exact hopaque
  · have hkept : ∀ c, c < 4 →
        ¬((s.rleX.toNat < s.imgW.toNat ∧ s.rleY.toNat < s.imgH.toNat) ∧ 4 * q ≤ 4 * p + c ∧ 4 * p + c < 4 * q + 4) :=
      fun c hc hwritten => hdrawn ⟨hwritten.1, by omega⟩
    rw [if_neg (hkept 3 (by omega))]
    refine h.imp_right fun ⟨hleave, hzero⟩ => ⟨hleave, fun c hc => ?_⟩
    rw [if_neg (hkept c hc), hzero c hc]

theorem opaqueOrClear_putPixels {px : Nat → Pixel} (hopaque : ∀ k, (px k).a = 255) (n : Nat) {s : State} {p : Nat}
    (h : s.opaqueOrClear p) : (putPixels n px s).opaqueOrClear p :=
  forUpTo_keeps (fun t => t.opaqueOrClear p) (fun k t => put (px k) t) n s (fun k _ _ => opaqueOrClear_put (hopaque k)) h

theorem RleCommand.opaqueOrClear {a b : Byte} {s t : State} {p : Nat} (h : RleCommand a b s t) (hs : s.opaqueOrClear p) :
    t.opaqueOrClear p := by
  cases h with
  | drawn c n px _ hopaque => exact opaqueOrClear_putPixels hopaque n (s := advance c s) hs
  | cut n px hopaque => exact opaqueOrClear_putPixels hopaque n (s := { s with inPos := s.inLen }) hs
  | endOfLine | endOfBitmap | delta => exact hs

theorem RleTurn.opaqueOrClear {s t : State} {p : Nat} (h : RleTurn s t) (hs : s.opaqueOrClear p) : t.opaqueOrClear p := by
  cases h with
  | rowsDone | headCut => exact hs
  | command _ _ hcommand => exact hcommand.opaqueOrClear (s := { s with inPos := s.inPos + 2 }) hs

/-! ## The end of a decode (R424, R429, R434 to R436) -/

/-- The decode that stood at `s` has ended at `t`: on the two bytes of EOB, or below the last row, or at the end of the stream. -/
def DecodeEnded (s t : State) : Prop :=
  (t.status = endStatus .ok { hasAlpha := !s.rleCtrl.getLsbD 3 } ∧ t.rleY.toNat < s.imgH.toNat ∧
      s.inPos.toNat + 2 ≤ t.inPos.toNat ∧ s.byteAt .input (t.inPos.toNat - 2) = 0 ∧
      s.byteAt .input (t.inPos.toNat - 1) = 1) ∨
    (t.status = endStatus .rowsDone { hasAlpha := !s.rleCtrl.getLsbD 3 } ∧ t.rleY = s.imgH) ∨
    (t.status = endStatus .truncated { hasAlpha := !s.rleCtrl.getLsbD 3 } ∧ t.rleY.toNat < s.imgH.toNat ∧
      t.inPos = s.inLen)

/-- How a decode ended is the same seen from an earlier state of it. -/
theorem DecodeEnded.from_earlier {s u t : State} (h : DecodeEnded u t) (hdecode : InDecode s u)
    (hp : s.inPos.toNat ≤ s.inLen.toNat) : DecodeEnded s t := by
  have hpos := (hdecode.further.2 hp).1
  have hsame : u.rleCtrl = s.rleCtrl ∧ u.imgH = s.imgH ∧ u.inLen = s.inLen ∧ u.byteAt .input = s.byteAt .input := by
    rw [hdecode.frame]; exact ⟨rfl, rfl, rfl, rfl⟩
  obtain ⟨hctrl, himgH, hinLen, hbyte⟩ := hsame
  unfold DecodeEnded at h ⊢
  rw [hctrl, himgH, hinLen, hbyte] at h
  exact h.imp_left fun ⟨hstatus, hy, hle, hhead⟩ => ⟨hstatus, hy, by omega, hhead⟩

theorem inPos_add_two {s : State} (h : s.inPos.toNat + 2 ≤ s.inLen.toNat) : (s.inPos + 2).toNat = s.inPos.toNat + 2 := by
  have := s.inLen.isLt
  bv_omega

/-- A turn after which no command is in progress has ended the decode. -/
theorem RleTurn.ended {s t : State} (h : RleTurn s t) (hr : s.run = .rle) (hy : s.rleY.toNat ≤ s.imgH.toNat)
    (hidle : t.run = .idle) : DecodeEnded s t := by
  cases h with
  | rowsDone hdone => exact .inr (.inl ⟨rfl, BitVec.eq_of_toNat_eq (Nat.le_antisymm hy hdone)⟩)
  | headCut hrow => exact .inr (.inr ⟨rfl, hrow, rfl⟩)
  | command hrow hlen hcommand =>
    cases hcommand with
    | drawn c n px =>
      rw [putPixels_frame] at hidle
      cases hr.symm.trans hidle
    | endOfLine | delta => cases hr.symm.trans hidle
    | cut n px =>
      rw [putPixels_frame]
      exact .inr (.inr ⟨rfl, hrow, rfl⟩)
    | endOfBitmap ha hb =>
      have hend : (finishRle .ok { s with inPos := s.inPos + 2 }).inPos.toNat = s.inPos.toNat + 2 := inPos_add_two hlen
      refine .inl ⟨rfl, hrow, Nat.le_of_eq hend.symm, ?_, ?_⟩
      · rw [hend]; exact ha
      · rw [hend]; exact hb

/-! ## Beyond the frame (20_memory.md R76) -/

theorem Memory.WrittenAt.read_outside {ok : Nat → Prop} {m m' : Memory} (h : m.WrittenAt ok m') {a : Nat} (ha : ¬ok a) :
    m'.read a = m.read a := by
  induction h with
  | refl => rfl
  | tail _ hwrite ih =>
    obtain ⟨x, b, hx, rfl⟩ := hwrite
    have hne : a ≠ x := fun e => ha (e ▸ hx)
    rw [Memory.read_write_other _ b hne, ih]

/-- A decode leaves every byte of `FB` beyond its frame. -/
theorem InDecode.byteAt_outside {s t : State} (h : InDecode s t) {a : Nat} (ha : 4 * s.imgW.toNat * s.imgH.toNat ≤ a) :
    t.byteAt .fb a = s.byteAt .fb a := by
  have hresets : t.resets = s.resets := by rw [h.frame]
  rw [byteAt_fb, byteAt_fb, hresets, h.written.read_outside (Nat.not_lt.2 ha)]

/-! ## The whole command -/

/-- A decode that began at `s`, at one of its turns or at its end. -/
structure DecodeStands (s u : State) : Prop where
  inDecode : InDecode s u
  pixels : ∀ p, p < s.imgW.toNat * s.imgH.toNat → u.opaqueOrClear p
  ended : u.run = .idle → DecodeEnded s u

theorem DecodeStands.turn {s u v : State} (hs : Decoding s) (hy : s.rleY.toNat ≤ s.imgH.toNat) (h : DecodeStands s u)
    (hrun : u.run ≠ .idle) (hturn : Turn u v) : DecodeStands s v := by
  have hdecode := h.inDecode
  have hr : u.run = .rle := (hdecode.running.resolve_right hrun).trans hs.run
  have hmode : u.rleMode = s.rleMode := by rw [hdecode.frame]; rfl
  have himgH : u.imgH = s.imgH := by rw [hdecode.frame]
  obtain ⟨hlen, hpos⟩ := hdecode.further
  have hu : Decoding u := ⟨hr, hmode ▸ hs.mode, hlen ▸ (hpos hs.inPos).2⟩
  have hcase := rle_turn_cases hu hturn
  exact
    { inDecode := hdecode.trans (rle_turn_inDecode hr hturn)
      pixels := fun p hp => hcase.opaqueOrClear (h.pixels p hp)
      ended := fun hidle => (hcase.ended hr (himgH ▸ hdecode.row hy) hidle).from_earlier hdecode hs.inPos }

/-- A decode from its start to its end. -/
theorem decodeStands_of_runCommand {s t : State} (hm : s.rleMode.isSome = true) (hp : s.inPos.toNat ≤ s.inLen.toNat)
    (h : runCommand (startRle s) = .next t) : DecodeStands (startRle s) t := by
  have hstart : Decoding (startRle s) := ⟨rfl, hm, hp⟩
  exact runTokens_keeps_turn (fun _ _ hu hrun hturn => hu.turn hstart (Nat.zero_le _) hrun hturn) _
    ⟨.refl _, fun _ => opaqueOrClear_startRle s, nofun⟩ h

/-- Settles O34: what every turn of the decode has kept, from the start that the parameters allow. -/
theorem rleDecodeEndsAndTouchesOnlyItsFrame : Obligations.RleDecodeEndsAndTouchesOnlyItsFrame := by
  unfold Obligations.RleDecodeEndsAndTouchesOnlyItsFrame
  intro s hr hparams
  obtain ⟨-, hm, -, -, -, -, hstream⟩ := (rleParamsOk_iff s).1 hparams
  have hpos := ((streamOk_iff s).1 hstream).1
  obtain ⟨t, ht, hidle, -⟩ := runCommand_startRle_ends hm hpos
  have hstands := decodeStands_of_runCommand hm hpos ht
  have hdecode := hstands.inDecode
  have hctrl : t.rleCtrl = s.rleCtrl := by rw [hdecode.frame]; rfl
  refine ⟨t, by rw [exec_rleDecode hr, if_pos hparams, ht], ?_, ?_, ?_, fun a ha => ?_, fun p hp => ?_, ?_, ?_⟩
  · rw [hdecode.frame, hidle, ← hr]; rfl
  · exact hdecode.column (Nat.zero_le _)
  · exact hdecode.row (Nat.zero_le _)
  · rw [hdecode.byteAt_outside ha, byteAt_startRle, if_neg (by rw [← Nat.mul_assoc]; omega)]
  · rw [← hctrl]; exact hstands.pixels p hp
  · exact hdecode.further.2 hpos
  · exact hstands.ended hidle

/-! ## The empty stream (R434, R437) -/

/-- With no byte left a decode ends as its pre-fill has left it. -/
theorem runCommand_startRle_empty {s : State} (hm : s.rleMode.isSome = true) (hh : 0 < s.imgH.toNat)
    (h : s.inPos = s.inLen) : runCommand (startRle s) = .next (finishRle .truncated (startRle s)) := by
  obtain ⟨m, hm⟩ := Option.isSome_iff_exists.1 hm
  have hpos : (startRle s).inPos = (startRle s).inLen := h
  have hend : { startRle s with inPos := (startRle s).inLen } = startRle s := by rw [← hpos]
  have hfetch : fetchToken (startRle s) = .done (finishRle .truncated (startRle s)) := by
    have hcut := fetchRle_truncated (s := startRle s) hh hm (by rw [hpos]) (by rw [hpos]; omega)
    rwa [hend] at hcut
  rw [runCommand, runTokens_succ_of_turn Running.noConfusion (.inl hfetch), runTokens_of_idle rfl]

/-- The fill colour byte by byte, `MODE` and `LEAVE` by their bits. -/
theorem rleFill_bytes {s : State} (hm : s.rleMode.isSome = true) {c : Nat} (hc : c < 4) :
    (rleFill s).bytes.getD c 0 =
      if s.rleCtrl.getLsbD 3 = false then 0
      else if s.rleCtrl.toNat % 4 = 2 then [0, 0, 0, 255].getD c 0
      else (palette s 0).bytes.getD c 0 := by
  have hmode : s.rleMode = some .rle24 ↔ s.rleCtrl.toNat % 4 = 2 :=
    rleMode_eq_rle24.trans ⟨fun h => h.1, fun h => ⟨h, ((rleMode_isSome_iff s).1 hm).2 h⟩⟩
  cases hleave : s.rleCtrl.getLsbD 3 with
  | false =>
    rw [if_pos rfl, rleFill_of_not_leave hleave]
    revert c
    decide
  | true =>
    rw [if_neg Bool.noConfusion, rleFill_of_leave hleave]
    simp only [hmode]
    split <;> rfl

/-- Settles O35: the decode ends at its first test of the stream, with the frame as the pre-fill has it. -/
theorem emptyRleStreamGivesThePrefilledFrame : Obligations.EmptyRleStreamGivesThePrefilledFrame := by
  unfold Obligations.EmptyRleStreamGivesThePrefilledFrame
  intro s hr hparams hempty
  obtain ⟨-, hm, -, hh, -, -, -⟩ := (rleParamsOk_iff s).1 hparams
  have hrow := ((dimOk_iff s.imgH).1 hh).1
  have hbyte : ∀ a, (finishRle .truncated (startRle s)).byteAt .fb a = (startRle s).byteAt .fb a := fun _ => rfl
  refine ⟨_, by rw [exec_rleDecode hr, if_pos hparams, runCommand_startRle_empty hm hrow hempty], ?_, fun p c hp hc => ?_,
    fun a ha => ?_⟩
  · rw [finishRle_eq, ← hr]; rfl
  · have hmod : (4 * p + c) % 4 = c := by omega
    rw [hbyte, byteAt_startRle, if_pos (by omega), hmod, rleFill_bytes hm hc]
  · rw [hbyte, byteAt_startRle, if_neg (by omega)]

end Sys2Proof.Machine
end

section
/-! SUPPORT. The colour-mask engine (44_color_mask.md R451 to R457): the lowest set bit and the number of set bits of a mask,
the record they make, what a record extracts from a pixel, and who changes a record; the five statements of this family. -/

namespace Sys2Proof.Machine

/-! ## The channel records change by `CME.NEW` and by reset (R457) -/

theorem ColorMasks.get_set (m : ColorMasks) (c d : Channel) (v : ColorMask) :
    (m.set c v).get d = if d = c then v else m.get d := by
  cases c <;> cases d <;> rfl

theorem ColorMasks.get_set_same (m : ColorMasks) (c : Channel) (v : ColorMask) : (m.set c v).get c = v := by
  rw [get_set, if_pos rfl]

theorem ColorMasks.get_set_other (m : ColorMasks) {c d : Channel} (h : d ≠ c) (v : ColorMask) :
    (m.set c v).get d = m.get d := by
  rw [get_set, if_neg h]

/-- A turn of a command in progress stays on its line or in its decode, and these hold no record. -/
theorem turn_cm {s t : State} (h : Turn s t) : t.cm = s.cm := by
  cases hr : s.run with
  | idle =>
    have hfetch : fetchToken s = .done s := by rw [fetchToken, hr]
    rw [turn_of_done hfetch h]
  | g3 r => rw [(g3_turn_cases hr h).onLine.frame]
  | rle => rw [(rle_turn_inDecode hr h).frame]

theorem runCommand_cm {s t : State} (h : runCommand s = .next t) : t.cm = s.cm :=
  runTokens_keeps_turn (P := fun u => u.cm = s.cm) (fun _ _ hu _ hturn => (turn_cm hturn).trans hu) _ rfl h

theorem fxcChecked_cm {s t : State} (h : t.cm = s.cm) (f : ResultFlags) : (fxcChecked s t f).cm = s.cm := by
  unfold fxcChecked
  split
  · rfl
  split
  · rfl
  · exact h

/-- Of the commands, `CME.NEW` of the channel alone writes its record. -/
theorem exec_command_get {i : Instr} {ch : Channel} {s t : State} (hi : i.isCommand = true) (hne : i ≠ .cmeNew ch)
    (h : exec i s = .next t) : t.cm.get ch = s.cm.get ch := by
  have hr := idle_of_exec_command hi h
  cases i, hi using Instr.command_cases with
  | nop => cases (exec_nop hr).symm.trans h; rfl
  | g3Reset => cases (exec_g3Reset hr).symm.trans h; rfl
  | g3Line =>
    rw [exec_g3Line hr] at h
    split at h
    · rw [runCommand_cm h]; rfl
    · cases h; rfl
  | rleDecode =>
    rw [exec_rleDecode hr] at h
    split at h
    · rw [runCommand_cm h]; rfl
    · cases h; rfl
  | cmeNew c =>
    cases (exec_cmeNew hr c).symm.trans h
    exact ColorMasks.get_set_other s.cm (fun e => hne (congrArg Instr.cmeNew e.symm)) _
  | cmeExtract c => cases (exec_cmeExtract hr c).symm.trans h; rfl
  | cmeRgba => cases (exec_cmeRgba hr).symm.trans h; rfl
  | fxcDec => cases (exec_fxcDec hr).symm.trans h; rw [fxcChecked_cm (by rfl)]
  | fxcEnc => cases (exec_fxcEnc hr).symm.trans h; rw [fxcChecked_cm (by rfl)]
  | icnUnpack1 =>
    rw [exec_icnUnpack1 hr] at h
    cases h
    split
    · rfl
    split
    · rfl
    · rw [halt_cm, (onMask_unpackImage s).frame]
  | icnMono =>
    rw [exec_icnMono hr] at h
    cases h
    split
    · rfl
    split <;> rfl
  | icnAlpha =>
    rw [exec_icnAlpha hr] at h
    cases h
    split
    · rfl
    split
    · rfl
    split <;> rfl

/-- A command comes from a write of `PDU_CMD` that decodes to it (30_encoding.md R91), and from no other access. -/
theorem hostAccess_instr {a : HostAction} {i : Instr} {s t : State} (h : hostAccess a s = .instr i t) :
    ∃ w, a = .wr 0 w ∧ decodeCommand w = .ok i ∧ t = s := by
  cases a with
  | wr off w =>
    rw [hostAccess_wr] at h
    split at h
    · cases h
    split at h
    · rename_i hoff
      unfold fetchCommand at h
      split at h
      · cases h; exact ⟨w, by rw [hoff], ‹_›, rfl⟩
      · cases h
    · cases h
  | rd off =>
    rw [hostAccess_rd] at h
    split at h <;> cases h
  | load sp x b =>
    by_cases hpal : sp = .pal
    · subst hpal; cases h
    rw [hostAccess_load hpal] at h
    split at h <;> cases h
  | loadPal i r g b => cases h
  | read sp x =>
    by_cases hin : sp = .input
    · subst hin; cases h
    by_cases hpal : sp = .pal
    · subst hpal; cases h
    rw [hostAccess_read hin hpal] at h
    split at h <;> cases h
  | reset => cases h

theorem hostAccess_cm {a : HostAction} {s t : State} (ha : a ≠ .reset) (h : hostAccess a s = .done t) : t.cm = s.cm := by
  have hfound := hostAccess_ofAccess ha s
  rw [h] at hfound
  obtain htouched | rfl := hfound
  · rw [htouched]
  · rfl

/-- Settles O40: a step that is no reset is a turn of the command in progress, an access of the host that is no command, or a
command, which the hypothesis says is not `CME.NEW ch`. -/
theorem channelRecordChangesOnlyByItsCmeNewOrReset : Obligations.ChannelRecordChangesOnlyByItsCmeNewOrReset := by
  unfold Obligations.ChannelRecordChangesOnlyByItsCmeNewOrReset
  intro s t ch h hreset hnew
  by_cases hr : s.run = .idle
  · cases hh : s.host with
    | nil => cases (step_idle hr hh).symm.trans h; rfl
    | cons a rest =>
      have ha : a ≠ .reset := fun e => hreset rest (by rw [hh, e])
      have hfetch := fetch_host hr hh
      obtain hf | ⟨i, u, hf, he⟩ := step_next h
      · rw [hostAccess_cm ha (hfetch.symm.trans hf)]
      · obtain ⟨w, rfl, hdecode, rfl⟩ := hostAccess_instr (hfetch.symm.trans hf)
        have hne : i ≠ .cmeNew ch := fun e => hnew w rest hr hh (e ▸ hdecode)
        exact exec_command_get (s := { s with host := rest }) (decodeCommand_isCommand hdecode) hne he
  · have hhead : s.host.head? ≠ some .reset := fun e => by
      obtain ⟨rest, hrest⟩ := List.head?_eq_some_iff.1 e
      exact hreset rest hrest
    obtain ⟨u, hu⟩ := running_has_turn hr
    cases (step_of_turn hr hhead hu).symm.trans h
    rw [turn_cm hu]

/-! ## The bits of a mask (00_scope.md R11) -/

/-- The search finds the first set bit where there is one among the bits searched. -/
theorem lowestSetBit_spec {m : Word} {n k : Nat} (h : ∃ j, k ≤ j ∧ j < k + n ∧ m.getLsbD j = true) :
    lowestSetBit m n k < k + n ∧ m.getLsbD (lowestSetBit m n k) = true ∧
      ∀ j, k ≤ j → j < lowestSetBit m n k → m.getLsbD j = false := by
  induction n generalizing k with
  | zero => obtain ⟨j, hk, hj, -⟩ := h; omega
  | succ n ih =>
    rw [lowestSetBit]
    split
    · exact ⟨by omega, ‹_›, fun j hk hj => absurd hj (Nat.not_lt.2 hk)⟩
    · rename_i hbit
      obtain ⟨j, hk, hj, hset⟩ := h
      have hne : j ≠ k := fun e => hbit (e ▸ hset)
      obtain ⟨hlt, hfound, hbelow⟩ := ih (k := k + 1) ⟨j, by omega, by omega, hset⟩
      refine ⟨by omega, hfound, fun i hi hlow => ?_⟩
      by_cases e : i = k
      · rw [e]; exact Bool.eq_false_iff.2 hbit
      · exact hbelow i (by omega) hlow

theorem exists_set_bit {m : Word} (h : m ≠ 0) : ∃ j, j < 32 ∧ m.getLsbD j = true := by
  by_contra hnone
  refine h (BitVec.eq_of_getLsbD_eq fun j hj => ?_)
  rw [show (0 : Word).getLsbD j = false from BitVec.getLsbD_zero]
  exact Bool.eq_false_iff.2 fun hset => hnone ⟨j, hj, hset⟩

theorem ctz_spec {m : Word} (h : m ≠ 0) :
    ctz m < 32 ∧ m.getLsbD (ctz m) = true ∧ ∀ j, j < ctz m → m.getLsbD j = false := by
  obtain ⟨j, hj, hset⟩ := exists_set_bit h
  obtain ⟨hlt, hfound, hbelow⟩ := lowestSetBit_spec (n := 32) (k := 0) ⟨j, Nat.zero_le j, by omega, hset⟩
  exact ⟨by rw [ctz]; omega, hfound, fun j hj => hbelow j (Nat.zero_le j) hj⟩

theorem countBits_eq (m : Word) (n : Nat) : countBits m n = (List.range n).countP fun k => m.getLsbD k := by
  induction n with
  | zero => rfl
  | succ n ih =>
    rw [countBits, ih, List.range_succ, List.countP_append, List.countP_singleton]
    cases m.getLsbD n <;> rfl

theorem popcount_le (m : Word) : popcount m ≤ 32 := by
  rw [popcount, countBits_eq]
  exact Nat.le_trans List.countP_le_length (Nat.le_of_eq List.length_range)

theorem popcount_pos {m : Word} (h : m ≠ 0) : 0 < popcount m := by
  obtain ⟨j, hj, hset⟩ := exists_set_bit h
  rw [popcount, countBits_eq, List.countP_pos_iff]
  exact ⟨j, List.mem_range.2 hj, hset⟩

/-- A shift by no more than the clear low bits drops no set bit: both count the bits `0` to `k + 31`, which `m` has below `k`
and above 31 clear. -/
theorem popcount_ushiftRight {m : Word} {k : Nat} (h : ∀ j, j < k → m.getLsbD j = false) :
    popcount (m >>> k) = popcount m := by
  have hlow : (List.range k).countP (fun j => m.getLsbD j) = 0 :=
    List.countP_eq_zero.2 fun j hj => by simp [h j (List.mem_range.1 hj)]
  have hhigh : ((List.range k).map (32 + ·)).countP (fun j => m.getLsbD j) = 0 :=
    List.countP_eq_zero.2 fun j hj => by
      obtain ⟨i, -, rfl⟩ := List.mem_map.1 hj
      simp
  calc popcount (m >>> k)
      = ((List.range 32).map (k + ·)).countP (fun j => m.getLsbD j) := by
        rw [popcount, countBits_eq, List.countP_map]
        simp only [BitVec.getLsbD_ushiftRight, Function.comp_def]
    _ = (List.range (k + 32)).countP (fun j => m.getLsbD j) := by
        rw [List.range_add, List.countP_append, hlow, Nat.zero_add]
    _ = popcount m := by
        rw [Nat.add_comm, List.range_add, List.countP_append, hhigh, Nat.add_zero, popcount, countBits_eq]

/-! ## The record of a mask (R451) -/

theorem scaleOf_lt {bits : Nat} (h : 0 < bits) : scaleOf bits < 256 := by
  unfold scaleOf
  split
  · rw [Nat.shiftRight_eq_div_pow]
    exact Nat.div_lt_self (by decide) (Nat.one_lt_two_pow (by omega))
  · decide

/-- The record of a mask with a set bit, with every field in its range. -/
theorem colorMask_fields {m : Word} (h : m ≠ 0) :
    (colorMask m).rightShift.toNat = ctz m ∧ (colorMask m).present = true ∧ (colorMask m).bits.toNat = popcount m ∧
      (colorMask m).scale.toNat = scaleOf (popcount m) := by
  obtain ⟨hlt, -, hbelow⟩ := ctz_spec h
  have hle := popcount_le m
  have hscale := scaleOf_lt (popcount_pos h)
  rw [colorMask, if_neg h, popcount_ushiftRight hbelow]
  refine ⟨?_, rfl, ?_, ?_⟩
  · exact Nat.mod_eq_of_lt hlt
  · exact Nat.mod_eq_of_lt (by omega)
  · exact Nat.mod_eq_of_lt hscale

/-- Settles O36: the record is that of the mask, and `ctz` and `popcount` are the index and the number of its bits. -/
theorem cmeNewDerivesTheRecord : Obligations.CmeNewDerivesTheRecord := by
  unfold Obligations.CmeNewDerivesTheRecord
  intro s ch hr
  refine ⟨_, exec_cmeNew hr ch, by rw [halt, ← hr]; rfl, fun c hc => ColorMasks.get_set_other s.cm hc _, fun h0 => ?_,
    fun h => ?_⟩
  · rw [halt_cm, ColorMasks.get_set_same, h0, colorMask_zero]; rfl
  · obtain ⟨hshift, hpresent, hbits, hscale⟩ := colorMask_fields h
    obtain ⟨-, hfound, hbelow⟩ := ctz_spec h
    rw [halt_cm, ColorMasks.get_set_same, hshift, hbits, hscale]
    refine ⟨colorMask_mask _, hpresent, hfound, hbelow, ?_, ?_⟩
    · rw [popcount, countBits_eq, List.countP_eq_length_filter]
    · rw [scaleOf, Nat.shiftRight_eq_div_pow]

/-! ## Extraction (R452, R454) -/

theorem maskedField_eq (c : ColorMask) (p : Word) : maskedField c p = (p &&& c.mask).toNat / 2 ^ c.rightShift.toNat := by
  rw [maskedField, BitVec.toNat_ushiftRight, Nat.shiftRight_eq_div_pow]

theorem extractNat_absent {c : ColorMask} (h : c.present = false) (p : Word) : extractNat c p = 255 :=
  if_neg (by simp [h])

theorem extractNat_present {c : ColorMask} (h : c.present = true) (p : Word) :
    extractNat c p = min (min (maskedField c p) 255 * c.scale.toNat) 255 := if_pos h

theorem extractNat_le (c : ColorMask) (p : Word) : extractNat c p ≤ 255 := by
  cases h : c.present with
  | false => rw [extractNat_absent h]
  | true => rw [extractNat_present h]; exact Nat.min_le_right _ _

theorem extractNat_mono {c : ColorMask} {p q : Word} (h : maskedField c p ≤ maskedField c q) :
    extractNat c p ≤ extractNat c q := by
  cases hc : c.present with
  | false => rw [extractNat_absent hc, extractNat_absent hc]
  | true =>
    rw [extractNat_present hc, extractNat_present hc]
    gcongr

theorem extract_toNat (c : ColorMask) (p : Word) : (extract c p).toNat = extractNat c p :=
  Nat.mod_eq_of_lt (Nat.lt_succ_of_le (extractNat_le c p))

/-- Settles O37: the value is a byte, so its zero extension is the number of R452. -/
theorem cmeExtractScalesTheMaskedField : Obligations.CmeExtractScalesTheMaskedField := by
  unfold Obligations.CmeExtractScalesTheMaskedField
  intro s ch hr
  have hvalue : (extract (s.cm.get ch) s.cmeArg).setWidth 32 = BitVec.ofNat 32 (extractNat (s.cm.get ch) s.cmeArg) := by
    rw [← extract_toNat, BitVec.ofNat_toNat]
  rw [exec_cmeExtract hr, hvalue, halt, ← hr]
  cases hc : (s.cm.get ch).present with
  | false => rw [extractNat_absent hc]; rfl
  | true => rw [extractNat_present hc, maskedField_eq]; rfl

/-- Settles O39: the extracted value is a capped multiple of the masked field, and the mask of `colorMask m` is `m`. -/
theorem extractionIsMonotoneBoundedAndMasked : Obligations.ExtractionIsMonotoneBoundedAndMasked := by
  unfold Obligations.ExtractionIsMonotoneBoundedAndMasked
  intro m p q
  have hfield : ∀ x, maskedField (colorMask m) x = (x &&& m).toNat / 2 ^ (colorMask m).rightShift.toNat := fun x => by
    rw [maskedField_eq, colorMask_mask]
  refine ⟨extractNat_le _ p, fun h => extractNat_mono (by rwa [hfield, hfield]), fun h => ?_, ?_⟩
  · have hsame : maskedField (colorMask m) p = maskedField (colorMask m) q := by rw [hfield, hfield, h]
    exact Nat.le_antisymm (extractNat_mono (Nat.le_of_eq hsame)) (extractNat_mono (Nat.le_of_eq hsame.symm))
  · exact extractNat_absent (by rw [colorMask_zero]; rfl) p

/-! ## The pixel word (R453; 30_encoding.md R104) -/

theorem append_toNat {m n : Nat} (x : BitVec m) (y : BitVec n) : (x ++ y).toNat = x.toNat * 2 ^ n + y.toNat := by
  rw [BitVec.toNat_append, ← Nat.shiftLeft_add_eq_or_of_lt y.isLt, Nat.shiftLeft_eq]

/-- A pixel's word has R in its lowest byte and A in its highest. -/
theorem Pixel.word_eq (p : Pixel) :
    p.word = BitVec.ofNat 32 (p.r.toNat + 2 ^ 8 * p.g.toNat + 2 ^ 16 * p.b.toNat + 2 ^ 24 * p.a.toNat) := by
  have hword : p.word.toNat = ((p.a.toNat * 2 ^ 8 + p.b.toNat) * 2 ^ 8 + p.g.toNat) * 2 ^ 8 + p.r.toNat := by
    rw [Pixel.word, append_toNat, append_toNat, append_toNat]
  refine BitVec.eq_of_toNat_eq ?_
  rw [hword, BitVec.toNat_ofNat]
  omega

/-- Settles O38: the word of the extracted pixel, by its bytes. -/
theorem cmeRgbaPacksTheFourChannels : Obligations.CmeRgbaPacksTheFourChannels := by
  unfold Obligations.CmeRgbaPacksTheFourChannels
  intro s hr
  refine ⟨?_, extract_toNat⟩
  rw [exec_cmeRgba hr, Pixel.word_eq, halt, ← hr]
  rfl

end Sys2Proof.Machine
end

section
/-! SUPPORT. The s2.13 converter (45_s213_converter.md R471 to R488): the linear functions by their formulas, `srgb8` by the
thresholds at which it reaches each level, the encode table by its place between them, and the two commands by their modes;
the five statements of this family. -/

namespace Sys2Proof.Machine

/-! ## Channels clamped to [0, 8192] (R471, R480) -/

theorem clampS213_le (v : BitVec 16) : clampS213 v ≤ 8192 := Nat.min_le_right _ _

theorem clampS213_mono {v w : BitVec 16} (h : v.toInt ≤ w.toInt) : clampS213 v ≤ clampS213 w := by
  unfold clampS213
  omega

theorem le_clampS213_iff {k : Nat} {v : BitVec 16} (hpos : 0 < k) (hle : k ≤ 8192) :
    k ≤ clampS213 v ↔ (k : Int) ≤ v.toInt := by
  unfold clampS213
  omega

theorem toInt_ofNat_of_le {n : Nat} (h : n ≤ 8192) : (BitVec.ofNat 16 n).toInt = n := by
  rw [BitVec.toInt_eq_toNat_cond, BitVec.toNat_ofNat]
  split <;> omega

/-- The words of [0, 1] are their own clamped values. -/
theorem clampS213_ofNat {n : Nat} (h : n ≤ 8192) : clampS213 (BitVec.ofNat 16 n) = n := by
  rw [clampS213, toInt_ofNat_of_le h]
  omega

/-! ## `lin8` and `ENCA` (R477, R487) -/

/-- R477 has one formula: its two bounds are values of it. -/
theorem lin8Nat_eq {s : Nat} (h : s ≤ 8192) : lin8Nat s = (510 * s + 8192) / 16384 := by
  unfold lin8Nat
  split
  · omega
  split <;> omega

theorem lin8_toNat (v : BitVec 16) : (lin8 v).toNat = (510 * clampS213 v + 8192) / 16384 := by
  have hle := clampS213_le v
  rw [lin8, BitVec.toNat_ofNat, lin8Nat_eq hle]
  omega

theorem lin8_mono {v w : BitVec 16} (h : v.toInt ≤ w.toInt) : (lin8 v).toNat ≤ (lin8 w).toNat := by
  have hclamp := clampS213_mono h
  rw [lin8_toNat, lin8_toNat]
  gcongr

theorem encLinear_toNat (c : Byte) : (encLinear c).toNat = (16384 * c.toNat + 255) / 510 := by
  rw [encLinear, BitVec.toNat_ofNat]
  omega

theorem lin8_encLinear (c : Byte) : lin8 (encLinear c) = c := by
  refine BitVec.eq_of_toNat_eq ?_
  rw [lin8_toNat, encLinear, clampS213_ofNat (by omega)]
  omega

/-! ## The thresholds of `srgb8` (R476) -/

theorem srgbAtLeast_iff {s k : Nat} :
    srgbAtLeast s k = true ↔ (1000 * k + 13525) ^ 12 * 8192 ^ 5 ≤ s ^ 5 * 269025 ^ 12 := decide_eq_true_iff

theorem srgbAtLeast_mono {s s' k k' : Nat} (hs : s ≤ s') (hk : k' ≤ k) (h : srgbAtLeast s k = true) :
    srgbAtLeast s' k' = true := by
  rw [srgbAtLeast_iff] at h ⊢
  calc (1000 * k' + 13525) ^ 12 * 8192 ^ 5
      ≤ (1000 * k + 13525) ^ 12 * 8192 ^ 5 := by gcongr
    _ ≤ s ^ 5 * 269025 ^ 12 := h
    _ ≤ s' ^ 5 * 269025 ^ 12 := by gcongr

theorem srgbSearch_le (s n : Nat) : srgbSearch s n ≤ n := by
  induction n with
  | zero => exact Nat.le_refl 0
  | succ n ih =>
    rw [srgbSearch]
    split <;> omega

/-- The search finds the largest level reached, since a level reached has every lower one reached. -/
theorem le_srgbSearch_iff {s k n : Nat} (hpos : 0 < k) (hle : k ≤ n) :
    k ≤ srgbSearch s n ↔ srgbAtLeast s k = true := by
  induction n with
  | zero => omega
  | succ n ih =>
    rw [srgbSearch]
    split
    · exact iff_of_true hle (srgbAtLeast_mono (Nat.le_refl s) hle ‹_›)
    · obtain rfl | hlt := Nat.eq_or_lt_of_le hle
      · exact iff_of_false (Nat.not_le.2 (Nat.lt_succ_of_le (srgbSearch_le s n))) ‹_›
      · exact ih (Nat.le_of_lt_succ hlt)

/-- `THR[k]`, for `k` of 1 to 255. -/
def thr (k : Nat) : Nat := thrTable.getD (k - 1) 0

/-- `THR` lies inside the range of a clamped channel. -/
theorem thr_bounds : ∀ k < 256, 0 < k → 0 < thr k ∧ thr k < 8192 := by decide +kernel

/-- Each threshold on the line segment is the least word of its level there. -/
theorem thr_line : ∀ k < 256, 0 < k →
    (thr k ≤ 25 → 81920 * k ≤ 32946 * thr k + 40960) ∧ 32946 * min (thr k - 1) 25 + 40960 < 81920 * k := by
  decide +kernel

/-- Each threshold on the power segment is the least word of its level there. -/
theorem thr_power : ∀ k < 256, 0 < k →
    srgbAtLeast (max (thr k) 26) k = true ∧ (26 < thr k → srgbAtLeast (thr k - 1) k = false) := by
  decide +kernel

theorem le_line_iff {s k : Nat} (hs : s ≤ 25) (hpos : 0 < k) (hk : k < 256) :
    k ≤ (32946 * s + 40960) / 81920 ↔ thr k ≤ s := by
  obtain ⟨hat, hbelow⟩ := thr_line k hk hpos
  omega

theorem srgbAtLeast_iff_thr_le {s k : Nat} (hs : 25 < s) (hpos : 0 < k) (hk : k < 256) :
    srgbAtLeast s k = true ↔ thr k ≤ s := by
  obtain ⟨hat, hbelow⟩ := thr_power k hk hpos
  constructor
  · intro h
    by_contra hlt
    have hprev := srgbAtLeast_mono (by omega : s ≤ thr k - 1) (Nat.le_refl k) h
    exact absurd hprev (by simp [hbelow (by omega)])
  · exact fun h => srgbAtLeast_mono (by omega : max (thr k) 26 ≤ s) (Nat.le_refl k) hat

theorem le_srgb8Nat_iff {s k : Nat} (hs : s ≤ 8192) (hpos : 0 < k) (hk : k < 256) : k ≤ srgb8Nat s ↔ thr k ≤ s := by
  obtain ⟨hthr, hmax⟩ := thr_bounds k hk hpos
  unfold srgb8Nat
  split
  · omega
  split
  · omega
  split
  · exact le_line_iff ‹_› hpos hk
  · rw [le_srgbSearch_iff hpos (Nat.le_of_lt_succ hk)]
    exact srgbAtLeast_iff_thr_le (by omega) hpos hk

theorem srgb8Nat_lt (s : Nat) : srgb8Nat s < 256 := by
  have hsearch := srgbSearch_le s 255
  unfold srgb8Nat
  split
  · omega
  split
  · omega
  split <;> omega

/-- `srgb8` reaches a level at its threshold. -/
theorem le_srgb8_iff {v : BitVec 16} {k : Nat} (hpos : 0 < k) (hk : k < 256) :
    k ≤ (srgb8 v).toNat ↔ thr k ≤ clampS213 v := by
  rw [srgb8, BitVec.toNat_ofNat, Nat.mod_eq_of_lt (srgb8Nat_lt _), le_srgb8Nat_iff (clampS213_le v) hpos hk]

theorem srgb8_mono {v w : BitVec 16} (h : v.toInt ≤ w.toInt) : (srgb8 v).toNat ≤ (srgb8 w).toNat := by
  obtain hzero | hpos := Nat.eq_zero_or_pos (srgb8 v).toNat
  · omega
  · have hreached := (le_srgb8_iff hpos (srgb8 v).isLt).1 (Nat.le_refl _)
    exact (le_srgb8_iff hpos (srgb8 v).isLt).2 (hreached.trans (clampS213_mono h))

/-- No threshold lies above the first word that `lin8` takes to the same level. -/
theorem thr_le_linear : ∀ k < 256, 0 < k → 510 * (thr k - 1) + 8192 < 16384 * k := by decide +kernel

theorem lin8_le_srgb8 (v : BitVec 16) : (lin8 v).toNat ≤ (srgb8 v).toNat := by
  obtain hzero | hpos := Nat.eq_zero_or_pos (lin8 v).toNat
  · omega
  · have hthr := thr_le_linear _ (lin8 v).isLt hpos
    have hlin := lin8_toNat v
    exact (le_srgb8_iff hpos (lin8 v).isLt).2 (by omega)

/-- A test that holds exactly of the first `n` elements keeps them. -/
theorem filter_eq_take {α : Type} {l : List α} {p : α → Bool} {n : Nat}
    (h : ∀ i (hi : i < l.length), p l[i] = true ↔ i < n) : l.filter p = l.take n := by
  have htake : (l.take n).filter p = l.take n := List.filter_eq_self.2 fun x hx => by
    obtain ⟨i, hi, rfl⟩ := List.mem_iff_getElem.1 hx
    rw [List.length_take] at hi
    rw [List.getElem_take, h i (by omega)]
    omega
  have hdrop : (l.drop n).filter p = [] := List.filter_eq_nil_iff.2 fun x hx => by
    obtain ⟨i, hi, rfl⟩ := List.mem_iff_getElem.1 hx
    rw [List.length_drop] at hi
    rw [List.getElem_drop, h (n + i) (by omega)]
    omega
  calc l.filter p = (l.take n ++ l.drop n).filter p := by rw [List.take_append_drop]
    _ = l.take n := by rw [List.filter_append, htake, hdrop, List.append_nil]

theorem thrTable_length : thrTable.length = 255 := by decide +kernel

theorem thrTable_getElem {i : Nat} (hi : i < thrTable.length) : thrTable[i] = thr (i + 1) := by
  rw [thr, Nat.add_sub_cancel, List.getD_eq_getElem?_getD, List.getElem?_eq_getElem hi, Option.getD_some]

/-- R476 and its table: the level is the number of thresholds reached. -/
theorem srgb8_eq_count (v : BitVec 16) :
    (srgb8 v).toNat = (thrTable.filter fun k : Nat => decide ((k : Int) ≤ v.toInt)).length := by
  have hreached : ∀ i (hi : i < thrTable.length),
      decide ((thrTable[i] : Int) ≤ v.toInt) = true ↔ i < (srgb8 v).toNat := fun i hi => by
    have hi' : i + 1 < 256 := Nat.succ_lt_succ (hi.trans_eq thrTable_length)
    obtain ⟨hpos, hlt⟩ := thr_bounds (i + 1) hi' (Nat.succ_pos i)
    rw [decide_eq_true_iff, thrTable_getElem, ← le_clampS213_iff hpos (Nat.le_of_lt hlt),
      ← le_srgb8_iff (Nat.succ_pos i) hi', Nat.succ_le_iff]
  rw [filter_eq_take (l := thrTable) (p := fun k : Nat => decide ((k : Int) ≤ v.toInt)) hreached, List.length_take,
    thrTable_length]
  omega

/-- The statement's list has the entries as integers. -/
theorem length_filter_intCast (l : List Nat) (i : Int) :
    (List.filter (fun k : Int => decide (k ≤ i)) (do let a ← l; pure (a : Int))).length =
      (l.filter fun k : Nat => decide ((k : Int) ≤ i)).length := by
  rw [List.bind_eq_flatMap]
  simp only [List.pure_def]
  rw [← List.map_eq_flatMap, List.filter_map, List.length_map]
  rfl

/-! ## `ENC` (R487) -/

theorem encTable_le : ∀ c < 256, encTable.getD c 0 ≤ 8192 := by decide +kernel

theorem encSrgb_toNat (c : Byte) : (encSrgb c).toNat = encTable.getD c.toNat 0 := by
  have hle := encTable_le c.toNat c.isLt
  rw [encSrgb, BitVec.toNat_ofNat]
  omega

theorem encTable_line : ∀ c < 256, c ≤ 10 → encTable.getD c 0 = (163840 * c + 32946) / 65892 := by decide +kernel

theorem encTable_power : ∀ c < 256, 11 ≤ c →
    (2 * encTable.getD c 0 - 1) ^ 5 * 269025 ^ 12 ≤ 16384 ^ 5 * (1000 * c + 14025) ^ 12 ∧
      16384 ^ 5 * (1000 * c + 14025) ^ 12 < (2 * encTable.getD c 0 + 1) ^ 5 * 269025 ^ 12 := by decide +kernel

/-- The two tables interleave: `ENC[c]` is a word of the level `c`. -/
theorem thr_le_encTable_lt_thr : ∀ c < 256,
    (0 < c → thr c ≤ encTable.getD c 0) ∧ (c + 1 < 256 → encTable.getD c 0 < thr (c + 1)) := by decide +kernel

theorem srgb8_encSrgb (c : Byte) : srgb8 (encSrgb c) = c := by
  obtain ⟨hat, hnext⟩ := thr_le_encTable_lt_thr c.toNat c.isLt
  have hclamp : clampS213 (encSrgb c) = encTable.getD c.toNat 0 := clampS213_ofNat (encTable_le c.toNat c.isLt)
  refine BitVec.eq_of_toNat_eq (Nat.le_antisymm ?_ ?_)
  · by_contra habove
    have hlt : c.toNat + 1 < 256 := by have := (srgb8 (encSrgb c)).isLt; omega
    have hreached := (le_srgb8_iff (k := c.toNat + 1) (by omega) hlt).1 (Nat.lt_of_not_le habove)
    have := hnext hlt
    omega
  · obtain hzero | hpos := Nat.eq_zero_or_pos c.toNat
    · omega
    · exact (le_srgb8_iff hpos c.isLt).2 (by rw [hclamp]; exact hat hpos)

/-- A smaller word would have a smaller level, and the levels are `c` and `d`. -/
theorem encSrgb_mono {c d : Byte} (h : c.toNat ≤ d.toNat) : (encSrgb c).toNat ≤ (encSrgb d).toNat := by
  by_contra hlt
  have hc := encTable_le c.toNat c.isLt
  have hd := encTable_le d.toNat d.isLt
  rw [encSrgb_toNat, encSrgb_toNat] at hlt
  have hlevel : (srgb8 (encSrgb d)).toNat ≤ (srgb8 (encSrgb c)).toNat := srgb8_mono (by
    rw [encSrgb, encSrgb, toInt_ofNat_of_le hc, toInt_ofNat_of_le hd]
    omega)
  rw [srgb8_encSrgb, srgb8_encSrgb] at hlevel
  obtain rfl : c = d := BitVec.eq_of_toNat_eq (Nat.le_antisymm h hlevel)
  exact hlt (Nat.le_refl _)

/-- Settles O43: the levels are the thresholds reached, `lin8` and `ENCA` have one formula each, and each entry of `ENC` is
checked against its own description. -/
theorem converterFunctionsMeetTheirTables : Obligations.ConverterFunctionsMeetTheirTables := by
  unfold Obligations.ConverterFunctionsMeetTheirTables
  refine ⟨fun v => ⟨?_, fun h => ?_, fun h => ?_, fun h0 h1 => ?_⟩, fun c => ⟨encLinear_toNat c, fun h => ?_,
    fun h => ?_⟩⟩
  · rw [srgb8_eq_count, length_filter_intCast]
  · rw [lin8, show clampS213 v = 0 by unfold clampS213; omega]; rfl
  · rw [lin8, show clampS213 v = 8192 by unfold clampS213; omega]; rfl
  · rw [lin8_toNat, clampS213]; omega
  · rw [encSrgb_toNat, encTable_line c.toNat c.isLt h]
  · rw [encSrgb_toNat]; exact encTable_power c.toNat c.isLt h

/-- Settles O45: `srgb8` is monotone by its thresholds, `ENC` by the round trip, the linear functions by their formulas. -/
theorem converterFunctionsAreMonotone : Obligations.ConverterFunctionsAreMonotone := by
  unfold Obligations.ConverterFunctionsAreMonotone
  refine ⟨fun v w h => ⟨srgb8_mono h, lin8_mono h⟩, fun c d h => ⟨encSrgb_mono h, ?_⟩, lin8_le_srgb8⟩
  rw [encLinear_toNat, encLinear_toNat]
  gcongr

/-! ## The modes and the two tests (R475, R486; 10_state.md R33) -/

theorem fxcModeField_of_lt_two {s : State} (h : s.fxcMode.toNat < 2) :
    s.fxcModeField = if s.fxcMode = 0 then .toSrgb else .linear := by
  obtain hmode | hmode : s.fxcMode = 0 ∨ s.fxcMode = 1 := by bv_omega
  all_goals simp [State.fxcModeField, hmode]

section
variable {s t : State} (f : ResultFlags)

theorem fxcChecked_of_converting (h : s.fxcMode.toNat < 2) (ht : t.run = .idle) :
    fxcChecked s t f = { t with status := endStatus .ok f } := by
  have hok : fxcParamsOk s = true := (fxcParamsOk_iff s).2 (by omega)
  have hmode : s.fxcModeField ≠ .none := by
    rw [fxcModeField_of_lt_two h]
    split <;> simp
  rw [fxcChecked, if_neg (by simp [hok]), if_neg hmode, halt, ← ht, endStatus]

theorem fxcChecked_of_noConversion (h : s.fxcMode = 2) (hs : s.run = .idle) :
    fxcChecked s t f = { s with status := endStatus .errUnsupported {} } := by
  have hok : fxcParamsOk s = true := (fxcParamsOk_iff s).2 (by simp [h])
  have hmode : s.fxcModeField = .none := by simp [State.fxcModeField, h]
  rw [fxcChecked, if_neg (by simp [hok]), if_pos hmode, raise_of_idle hs]

theorem fxcChecked_of_reserved (h : 2 < s.fxcMode.toNat) (hs : s.run = .idle) :
    fxcChecked s t f = { s with status := endStatus .errParam {} } := by
  have hbad : fxcParamsOk s = false := Bool.eq_false_iff.2 fun hok => by
    have := (fxcParamsOk_iff s).1 hok
    omega
  rw [fxcChecked_of_illegal hbad, raise_of_idle hs]

end

/-! ## The two directions on a pixel -/

theorem extractLsb'_eq_ofNat {m : Nat} (w : BitVec m) (k n : Nat) :
    w.extractLsb' k n = BitVec.ofNat n (w.toNat / 2 ^ k) := by
  rw [BitVec.extractLsb', Nat.shiftRight_eq_div_pow]

theorem append_eq_ofNat {m n : Nat} (x : BitVec m) (y : BitVec n) :
    x ++ y = BitVec.ofNat (m + n) (y.toNat + 2 ^ n * x.toNat) := by
  rw [Nat.add_comm y.toNat, Nat.mul_comm (2 ^ n), ← append_toNat, BitVec.ofNat_toNat, BitVec.setWidth_eq]

/-- Mode 0 is `srgb8`, mode 1 `lin8`. -/
theorem decodeChannel_toNat {s : State} (h : s.fxcMode.toNat < 2) (v : BitVec 16) :
    (decodeChannel s.fxcModeField v).toNat = if s.fxcMode = 0 then (srgb8 v).toNat else (lin8 v).toNat := by
  rw [decodeChannel, fxcModeField_of_lt_two h]
  split <;> rfl

/-- Mode 0 is `ENC`, mode 1 `ENCA`. -/
theorem encodeChannel_toNat {s : State} (h : s.fxcMode.toNat < 2) (c : Byte) :
    (encodeChannel s.fxcModeField c).toNat = if s.fxcMode = 0 then (encSrgb c).toNat else (encLinear c).toNat := by
  rw [encodeChannel, fxcModeField_of_lt_two h]
  split <;> rfl

theorem decodeChannel_encodeChannel (m : FxcMode) (c : Byte) : decodeChannel m (encodeChannel m c) = c := by
  unfold decodeChannel encodeChannel
  split
  · exact srgb8_encSrgb c
  · exact lin8_encLinear c

theorem decodePixel_encode (m : FxcMode) (p : Pixel) : decodePixel m (encodeLo m p) (encodeHi m p) = p := by
  simp only [decodePixel, encodeLo, encodeHi, BitVec.extractLsb'_append_eq_left, BitVec.extractLsb'_append_eq_right,
    decodeChannel_encodeChannel, lin8_encLinear]

theorem word_pixelOfWord (w : Word) : (pixelOfWord w).word = w := by
  refine BitVec.eq_of_toNat_eq ?_
  simp only [Pixel.word_eq, pixelOfWord, extractLsb'_eq_ofNat, BitVec.toNat_ofNat]
  omega

/-! ## The commands (R475, R486, R488) -/

/-- Settles O41, mode by mode. -/
theorem fxcDecConvertsEachChannel : Obligations.FxcDecConvertsEachChannel := by
  unfold Obligations.FxcDecConvertsEachChannel
  intro s hr
  rw [exec_fxcDec hr]
  refine ⟨fun h => ?_, fun h => ?_, fun h => ?_⟩
  · rw [fxcChecked_of_converting _ h (by exact hr), Pixel.word_eq]
    simp only [decodePixel, decodeChannel_toNat h, extractLsb'_eq_ofNat, Nat.pow_zero, Nat.div_one]
    rfl
  · rw [fxcChecked_of_noConversion _ h hr]
  · rw [fxcChecked_of_reserved _ h hr]

/-- Settles O42, mode by mode. -/
theorem fxcEncConvertsEachChannel : Obligations.FxcEncConvertsEachChannel := by
  unfold Obligations.FxcEncConvertsEachChannel
  intro s hr
  rw [exec_fxcEnc hr]
  refine ⟨fun h => ?_, fun h => ?_, fun h => ?_⟩
  · rw [fxcChecked_of_converting _ h (by exact hr), encodeLo, encodeHi, append_eq_ofNat, append_eq_ofNat]
    simp only [pixelOfWord, encodeChannel_toNat h, extractLsb'_eq_ofNat, Nat.pow_zero, Nat.div_one]
  · rw [fxcChecked_of_noConversion _ h hr]
  · rw [fxcChecked_of_reserved _ h hr]

/-- Settles O44: encoding leaves the mode, so decoding inverts it channel by channel. -/
theorem fxcEncThenDecIsTheIdentity : Obligations.FxcEncThenDecIsTheIdentity := by
  unfold Obligations.FxcEncThenDecIsTheIdentity
  intro s hr h
  have henc := exec_fxcEnc hr
  rw [fxcChecked_of_converting _ h (by exact hr)] at henc
  refine ⟨_, _, henc, (exec_fxcDec (by exact hr)).trans (congrArg _ (fxcChecked_of_converting _ h (by exact hr))), ?_⟩
  congr 1
  exact (congrArg Pixel.word (decodePixel_encode s.fxcModeField (pixelOfWord s.fxcRgba))).trans (word_pixelOfWord _)

end Sys2Proof.Machine
end

section
/-! SUPPORT. The loops of `ICN.MONO` and `ICN.ALPHA` over the pixels of the frame: no two pixels share a byte, so after the loop
a byte is what its own pixel's turn writes (20_memory.md R67; 46_icon_mask.md R502 to R504); the two statements of this
family. -/

namespace Sys2Proof.Machine

/-! ## Loops of which one turn touches a byte -/

/-- What no turn of a loop touches, the loop leaves. -/
theorem Memory.read_forUpTo_of_untouched {f : Nat → Memory → Memory} {n a : Nat}
    (h : ∀ k, k < n → ∀ m : Memory, (f k m).read a = m.read a) (m : Memory) : (forUpTo n f m).read a = m.read a :=
  forUpTo_keeps (fun m' : Memory => m'.read a = m.read a) f n m (fun k hk m' hm => (h k hk m').trans hm) rfl

/-- What turn `j` of a loop writes and no other turn touches stands after the loop. -/
theorem Memory.read_forUpTo_of_single_turn {f : Nat → Memory → Memory} {v : Option Byte} {n j a : Nat} (hj : j < n)
    (hother : ∀ k, k < n → k ≠ j → ∀ m : Memory, (f k m).read a = m.read a) (hturn : ∀ m : Memory, (f j m).read a = v)
    (m : Memory) : (forUpTo n f m).read a = v := by
  induction n with
  | zero => omega
  | succ n ih =>
    rw [forUpTo]
    by_cases hlast : j = n
    · subst hlast
      exact hturn _
    · rw [hother n (by omega) (Ne.symm hlast), ih (by omega) fun k hk => hother k (by omega)]

/-- After a loop over the pixels of a frame, each turn of which writes only its own pixel's bytes, a byte is what the turn of
the byte's pixel writes. -/
theorem Memory.read_forUpTo_pixels {w h x r c : Nat} {f : Nat → Nat → Memory → Memory} {v : Option Byte}
    (hown : ∀ x' r' a, a < pixelAddr w x' r' ∨ pixelAddr w x' r' + 4 ≤ a → ∀ m : Memory, (f x' r' m).read a = m.read a)
    (hx : x < w) (hr : r < h) (hc : c < 4)
    (hturn : ∀ m : Memory, (f x r m).read (pixelAddr w x r + c) = v) (m : Memory) :
    (forUpTo h (fun r' m' => forUpTo w (fun x' => f x' r') m') m).read (pixelAddr w x r + c) = v := by
  have hother : ∀ x' r', x' < w → ¬(x' = x ∧ r' = r) → ∀ m' : Memory,
      (f x' r' m').read (pixelAddr w x r + c) = m'.read (pixelAddr w x r + c) := fun x' r' hx' hne => by
    have hapart := pixelAddr_disjoint hx hx' hne
    exact hown x' r' _ (by omega)
  refine Memory.read_forUpTo_of_single_turn hr (fun r' _ hne => ?_) ?_ m
  · exact Memory.read_forUpTo_of_untouched fun x' hx' => hother x' r' hx' fun e => hne e.2
  · exact Memory.read_forUpTo_of_single_turn hx (fun x' hx' hne => hother x' r hx' fun e => hne e.1) hturn

/-! ## The frame of the monochrome icon (R503) -/

theorem read_monoFrame {s : State} {x r c : Nat} (hx : x < s.icnMw.toNat) (hr : r < icnHalf s) (hc : c < 4) :
    (monoFrame s).read (pixelAddr s.icnMw.toNat x r + c) = (monoPixel s x r).bytes[c]? := by
  refine Memory.read_forUpTo_pixels (fun x' r' a ha m => ?_) hx hr hc (fun m => ?_) s.fb
  · rw [Memory.read_writePixel, if_neg (by omega)]
  · rw [Memory.read_writePixel, if_pos (by omega), Nat.add_sub_cancel_left]

/-- The red, green and blue bytes of a monochrome pixel are the xor mask, its alpha is the mask's alpha. -/
theorem monoPixel_bytes (s : State) (x r : Nat) {c : Nat} (hc : c < 4) :
    (monoPixel s x r).bytes[c]? = some (if c < 3 then xorMask s x r else alphaMask s x r) := by
  match c, hc with
  | 0, _ => rfl
  | 1, _ => rfl
  | 2, _ => rfl
  | 3, _ => rfl

/-! ## The colour frame with the mask's alpha (R504) -/

theorem read_alphaFrame {s : State} {x r : Nat} (hx : x < s.imgW.toNat) (hr : r < icnHalf s) :
    (alphaFrame s).read (pixelAddr s.imgW.toNat x r + 3) = some (alphaMask s x r) := by
  refine Memory.read_forUpTo_pixels (fun x' r' a ha m => ?_) hx hr (by omega) (fun m => ?_) s.fb
  · exact Memory.read_write_other m _ (by omega)
  · exact Memory.read_write_same m _ _

/-- `ICN.ALPHA` writes alpha bytes only. -/
theorem alphaFrame_writtenAt_alpha (s : State) : s.fb.WrittenAt (fun a => a % 4 = 3) (alphaFrame s) :=
  Memory.writtenAt_forUpTo
    (fun _ _ _ => Memory.writtenAt_forUpTo
      (fun _ _ m => Memory.writtenAt_write (by unfold pixelAddr; omega) m _) _) _

/-! ## The commands (R502 to R504) -/

theorem oddHeight_of_even {s : State} (h : s.icnMh.toNat % 2 = 0) : oddHeight s = false := decide_eq_false (by omega)

theorem sizeMismatch_iff (s : State) :
    sizeMismatch s = true ↔ s.imgW ≠ s.icnMw ∨ s.imgH.toNat ≠ s.icnMh.toNat / 2 := by
  simp only [sizeMismatch, Bool.or_eq_true, decide_eq_true_eq]
  rfl

/-- A byte that `FB` lists as before reads as before: the free values change only at a reset. -/
theorem byteAt_fb_of_read {s t : State} {a : Nat} (hresets : t.resets = s.resets) (h : t.fb.read a = s.fb.read a) :
    t.byteAt .fb a = s.byteAt .fb a := by
  rw [byteAt_fb, byteAt_fb, hresets, h]

/-- Settles O47, pixel by pixel. -/
theorem icnMonoBuildsTheFrameFromTheTwoHalves : Obligations.IcnMonoBuildsTheFrameFromTheTwoHalves := by
  unfold Obligations.IcnMonoBuildsTheFrameFromTheTwoHalves
  intro s hidle hp heven
  have hodd := oddHeight_of_even heven
  refine ⟨halt .ok (alphaFlags true) { s with imgW := s.icnMw, imgH := BitVec.ofNat 32 (icnHalf s), fb := monoFrame s },
    ?_, ?_, fun x r c hx hr hc => ?_, fun a ha => byteAt_fb_of_read rfl ?_⟩
  · rw [exec_icnMono hidle, if_neg (by simp [hp]), if_neg (by simp [hodd])]
  · rw [halt, ← hidle]; rfl
  · have hread := (read_monoFrame hx hr hc).trans (monoPixel_bytes s x r hc)
    rw [byteAt_fb]
    exact congrArg (Option.getD · _) hread
  · exact (monoFrame_written s).read_outside (Nat.not_lt.2 ha)

/-- Settles O48: on a size match pixel by pixel, on a mismatch by `halt` alone. -/
theorem icnAlphaWritesOnlyTheAlphaBytes : Obligations.IcnAlphaWritesOnlyTheAlphaBytes := by
  unfold Obligations.IcnAlphaWritesOnlyTheAlphaBytes
  intro s hidle hp heven
  have hodd := oddHeight_of_even heven
  rw [exec_icnAlpha hidle, if_neg (by simp [hp]), if_neg (by simp [hodd])]
  refine ⟨fun hw hh => ?_, fun hdiffer => ?_⟩
  · have hmatch : ¬sizeMismatch s = true := fun h => ((sizeMismatch_iff s).1 h).elim (· hw) (· hh)
    rw [if_neg hmatch]
    refine ⟨_, rfl, ?_, fun x r hx hr => ?_, fun a ha => byteAt_fb_of_read rfl ?_⟩
    · rw [halt, ← hidle]; rfl
    · have hread := read_alphaFrame hx (hr.trans_eq hh)
      rw [byteAt_fb]
      exact congrArg (Option.getD · _) hread
    · rcases ha with halpha | hbeyond
      · exact (alphaFrame_writtenAt_alpha s).read_outside halpha
      · rw [hh] at hbeyond
        exact (alphaFrame_written s).read_outside (Nat.not_lt.2 hbeyond)
  · rw [if_pos ((sizeMismatch_iff s).2 hdiffer), halt, ← hidle]
    rfl

end Sys2Proof.Machine
end

section
/-! SUPPORT. How a command ends: by `raise` of an error on the state it started from, or without an error (60_exceptions.md
R520, R533); the words that are no command and the tests at a command's start (R522, R524 to R526); the four statements of
this family. -/

namespace Sys2Proof.Machine

/-! ## A stream command at its end (R520, R521) -/

/-- With no command in progress, `PDU_STATUS` is as a `halt` left it. -/
def HaltedIfIdle (s : State) : Prop := s.run = .idle → ∃ c f, s.status = endStatus c f

theorem HaltedIfIdle.congr {s t : State} (hs : HaltedIfIdle s) (hrun : t.run = s.run) (hstatus : t.status = s.status) :
    HaltedIfIdle t := by
  unfold HaltedIfIdle
  rw [hrun, hstatus]
  exact hs

/-- Only `halt` ends a command in progress. -/
theorem Effect.haltedIfIdle {s t : State} (h : Effect s t) (hs : HaltedIfIdle s) : HaltedIfIdle t := by
  cases h with
  | computed h => exact hs.congr (by rw [h]) (by rw [h])
  | drew h _ => exact hs.congr (by rw [h]) (by rw [h])
  | refilled => exact hs.congr (by rw [refill_frame s]) (by rw [refill_frame s])
  | consumed | emptied | derived => exact hs.congr rfl rfl
  | begun hrun => exact fun hidle => absurd hidle hrun
  | lineGoesOn => exact nofun
  | halted => exact fun _ => ⟨_, _, rfl⟩

theorem runCommand_halted {s t : State} (hs : s.run ≠ .idle) (h : runCommand s = .next t) (hidle : t.run = .idle) :
    ∃ c f, t.status = endStatus c f :=
  (runCommand_effects h).keeps (fun _ _ => Effect.haltedIfIdle) (fun hi => absurd hi hs) hidle

/-! ## How a command ends (R520, R533) -/

/-- A command that started at `s` has ended at `t`. -/
inductive CommandEnded (s : State) : State → Prop
  /-- A test at its start failed, before anything was changed. -/
  | raised {c : ResultCode} (hcode : c.isError = true) : CommandEnded s (raise c s)
  /-- It ran, and its result is no error. -/
  | completed {t : State} {c : ResultCode} {f : ResultFlags} (hidle : t.run = .idle) (hstatus : t.status = endStatus c f)
      (hcode : c.isError = false) : CommandEnded s t

theorem CommandEnded.of_halt_ok (s : State) (f : ResultFlags) (u : State) : CommandEnded s (halt .ok f u) :=
  .completed rfl rfl rfl

/-- A stream command that ran from its start to an end without an error. -/
theorem CommandEnded.of_runCommand {s u t : State} (hu : u.run ≠ .idle) (h : runCommand u = .next t) (hidle : t.run = .idle)
    (hended : EndedWithoutError t) : CommandEnded s t := by
  obtain ⟨c, f, hstatus⟩ := runCommand_halted hu h hidle
  rw [EndedWithoutError, hstatus] at hended
  exact .completed hidle hstatus hended

/-- A test at a command's start, and what the command does when the test passes. -/
theorem CommandEnded.of_test {s t : State} {c : ResultCode} {failed : Prop} [Decidable failed] (hcode : c.isError = true)
    (h : CommandEnded s t) : CommandEnded s (if failed then raise c s else t) := by
  split
  · exact .raised hcode
  · exact h

theorem CommandEnded.of_fxcChecked (s t : State) (f : ResultFlags) : CommandEnded s (fxcChecked s t f) :=
  .of_test rfl (.of_test rfl (.of_halt_ok s f t))

/-- Every command ends, command by command, in one of the two ways. -/
theorem exec_command_ended {i : Instr} {s : State} (hi : i.isCommand = true) (hr : s.run = .idle) :
    ∃ t, exec i s = .next t ∧ CommandEnded s t := by
  cases i, hi using Instr.command_cases with
  | nop => exact ⟨_, exec_nop hr, .of_halt_ok s _ _⟩
  | g3Reset => exact ⟨_, exec_g3Reset hr, .of_halt_ok s _ _⟩
  | cmeNew ch => exact ⟨_, exec_cmeNew hr ch, .of_halt_ok s _ _⟩
  | cmeExtract ch => exact ⟨_, exec_cmeExtract hr ch, .of_halt_ok s _ _⟩
  | cmeRgba => exact ⟨_, exec_cmeRgba hr, .of_halt_ok s _ _⟩
  | g3Line =>
    rw [exec_g3Line hr]
    split
    · obtain ⟨t, ht, hidle, hended⟩ := runCommand_startLine_ends s
      exact ⟨t, ht, .of_runCommand Running.noConfusion ht hidle hended⟩
    · exact ⟨_, rfl, .raised rfl⟩
  | rleDecode =>
    rw [exec_rleDecode hr]
    split
    · rename_i hparams
      obtain ⟨-, hmode, -, -, -, -, hstream⟩ := (rleParamsOk_iff s).1 hparams
      obtain ⟨t, ht, hidle, hended⟩ := runCommand_startRle_ends hmode ((streamOk_iff s).1 hstream).1
      exact ⟨t, ht, .of_runCommand Running.noConfusion ht hidle hended⟩
    · exact ⟨_, rfl, .raised rfl⟩
  | fxcDec => exact ⟨_, exec_fxcDec hr, .of_fxcChecked s _ _⟩
  | fxcEnc => exact ⟨_, exec_fxcEnc hr, .of_fxcChecked s _ _⟩
  | icnUnpack1 => exact ⟨_, exec_icnUnpack1 hr, .of_test rfl (.of_test rfl (.of_halt_ok s _ _))⟩
  | icnMono => exact ⟨_, exec_icnMono hr, .of_test rfl (.of_test rfl (.of_halt_ok s _ _))⟩
  | icnAlpha =>
    refine ⟨_, exec_icnAlpha hr, .of_test rfl (.of_test rfl ?_)⟩
    split
    · exact .of_halt_ok s _ _
    · exact .of_halt_ok s _ _

/-- Settles O49: either way of ending is a `halt`. -/
theorem everyCommandEnds : Obligations.EveryCommandEnds := by
  unfold Obligations.EveryCommandEnds
  intro i s hi hr
  obtain ⟨t, ht, hended⟩ := exec_command_ended hi hr
  cases hended with
  | @raised c _ => exact ⟨_, c, {}, ht, rfl, rfl⟩
  | @completed _ c f hidle hstatus _ => exact ⟨t, c, f, ht, hidle, hstatus⟩

/-- Settles O50: a command with an error code ended by `raise` on the state it started from. -/
theorem errorsArePrecise : Obligations.ErrorsArePrecise := by
  unfold Obligations.ErrorsArePrecise
  intro i s t hi hr ht herror
  obtain ⟨u, hu, hended⟩ := exec_command_ended hi hr
  cases hu.symm.trans ht
  cases hended with
  | @raised c _ => exact raise_of_idle hr c
  | completed _ hstatus hcode =>
    rw [hstatus] at herror
    exact absurd herror (Bool.eq_false_iff.1 hcode)

/-! ## Words that are no command (R522) -/

/-- The three causes of R522: a reserved bit, an `OP` that is not in the table, a `CH` that the `OP` does not have. -/
abbrev IllegalCommandWord (w : Word) : Prop :=
  w.toNat / 1024 ≠ 0 ∨
    w.toNat % 256 ∉ [0x00, 0x01, 0x02, 0x10, 0x20, 0x21, 0x22, 0x30, 0x31, 0x40, 0x41, 0x42] ∨
    (w.toNat / 256 % 4 ≠ 0 ∧ w.toNat % 256 ≠ 0x20 ∧ w.toNat % 256 ≠ 0x21)

/-- No command's word has a cause of R522 (30_encoding.md R91, R92). -/
theorem legal_of_encode {i : Instr} {w : Word} (h : encode i = .command w) : ¬IllegalCommandWord w := by
  have hi := isCommand_of_encode h
  cases i, hi using Instr.command_cases with
  | cmeNew ch | cmeExtract ch => cases h; cases ch <;> decide
  | nop | g3Reset | g3Line | rleDecode | cmeRgba | fxcDec | fxcEnc | icnUnpack1 | icnMono | icnAlpha => cases h; decide

theorem fetchCommand_of_illegal {w : Word} (h : IllegalCommandWord w) (s : State) :
    fetchCommand w s = .done (raise .errIllegalCmd s) := by
  unfold fetchCommand
  split
  · rename_i hdecode
    exact absurd h (legal_of_encode (encode_of_decodeCommand hdecode))
  · rfl

/-- Settles O2: the access at offset 0 of such a word is a `raise`. -/
theorem illegalCommandWordRaisesErrIllegalCmd : Obligations.IllegalCommandWordRaisesErrIllegalCmd := by
  unfold Obligations.IllegalCommandWordRaisesErrIllegalCmd
  intro s rest w hr hh hw
  have hfetch : fetch s = .done (raise .errIllegalCmd { s with host := rest }) := by
    rw [fetch_host hr hh, hostAccess_wr, csrExists_of_aligned (by decide) rfl, if_neg Bool.noConfusion, if_pos rfl,
      fetchCommand_of_illegal hw]
  rw [step, hfetch, raise_of_idle (by exact hr)]

/-! ## The tests at a command's start (R524 to R526) -/

theorem exec_icnMono_of_oddHeight {s : State} (hr : s.run = .idle) (hp : monoParamsOk s = true)
    (hodd : oddHeight s = true) : exec .icnMono s = .next (raise .errOddHeight s) := by
  rw [exec_icnMono hr, if_neg (by simp [hp]), if_pos hodd]

theorem exec_icnAlpha_of_oddHeight {s : State} (hr : s.run = .idle) (hp : alphaParamsOk s = true)
    (hodd : oddHeight s = true) : exec .icnAlpha s = .next (raise .errOddHeight s) := by
  rw [exec_icnAlpha hr, if_neg (by simp [hp]), if_pos hodd]

theorem exec_icnUnpack1_of_shortInput {s : State} (hr : s.run = .idle) (hp : unpackParamsOk s = true)
    (hshort : shortInput s = true) : exec .icnUnpack1 s = .next (raise .errShortInput s) := by
  rw [exec_icnUnpack1 hr, if_neg (by simp [hp]), if_pos hshort]

/-- Settles O29, test by test. -/
theorem startTestsRaiseTheirErrors : Obligations.StartTestsRaiseTheirErrors := by
  unfold Obligations.StartTestsRaiseTheirErrors
  intro s hr
  refine ⟨fun hp hodd => ?_, fun hp hodd => ?_, fun hmode => ⟨?_, ?_⟩, fun hp hshort => ?_⟩
  · rw [exec_icnMono_of_oddHeight hr hp (decide_eq_true hodd), raise_of_idle hr]
  · rw [exec_icnAlpha_of_oddHeight hr hp (decide_eq_true hodd), raise_of_idle hr]
  · rw [exec_fxcDec hr, fxcChecked_of_noConversion _ hmode hr]
  · rw [exec_fxcEnc hr, fxcChecked_of_noConversion _ hmode hr]
  · rw [exec_icnUnpack1_of_shortInput hr hp (decide_eq_true hshort), raise_of_idle hr]

end Sys2Proof.Machine
end

section
/-! SUPPORT. The state after reset and the external reset (70_reset_and_hazards.md R550 to R552): what a read of a register
or of a byte finds there, and what of the state before is still seen. -/

namespace Sys2Proof.Machine

/-! ## The state after reset (R551) -/

/-- Every channel is absent after reset (10_state.md R42). -/
theorem reset_cm_get (ch : Channel) : State.reset.cm.get ch = .absent := by cases ch <;> rfl

theorem derivWord_absent : derivWord .absent = 0 := rfl

theorem csrRead_reset (c : Csr) : csrRead State.reset c = 0 := by
  cases c with
  | cmeMask ch => exact congrArg ColorMask.mask (reset_cm_get ch)
  | cmeDeriv ch => exact (congrArg derivWord (reset_cm_get ch)).trans derivWord_absent
  | _ => rfl

/-- A read finds a register, or a reserved place, which reads 0 in every state (10_state.md R36). -/
theorem csrReadAt_of_registers_zero {s : State} (h : ∀ c, csrRead s c = 0) (off : Nat) : csrReadAt s off = 0 := by
  cases hoff : csrAt off with
  | none => exact csrReadAt_of_none hoff s
  | some c => rw [csrReadAt, hoff]; exact h c

/-- Settles O12: the reads by the map, the records and the rest as `State.reset` gives them. -/
theorem resetReadsZeroEverywhere : Obligations.ResetReadsZeroEverywhere := by
  unfold Obligations.ResetReadsZeroEverywhere
  exact ⟨fun off _ _ => csrReadAt_of_registers_zero csrRead_reset off, reset_cm_get, rfl, rfl, rfl, rfl⟩

/-! ## The external reset (R550, R552) -/

/-- The registers after an external reset are those of the state after reset. -/
theorem csrRead_externalReset (s : State) (c : Csr) : csrRead (externalReset s) c = csrRead State.reset c := by
  cases c <;> rfl

theorem csrReadAt_externalReset (s : State) (off : Nat) : csrReadAt (externalReset s) off = 0 :=
  csrReadAt_of_registers_zero (fun c => (csrRead_externalReset s c).trans (csrRead_reset c)) off

theorem memOf_externalReset (s : State) (sp : Space) : (externalReset s).memOf sp = [] := by cases sp <;> rfl

/-- No byte is listed, so each reads the free value of the new reset (R552; log 7, 8). -/
theorem byteAt_externalReset (s : State) (sp : Space) (a : Nat) :
    (externalReset s).byteAt sp a = Config.unwrittenByte sp a (s.resets + 1) := by
  rw [State.byteAt, memOf_externalReset]
  rfl

/-- Of the state before, an external reset sees four fields, none of them the PDU's (log 8, 9, 18). -/
theorem externalReset_congr {s s' : State} (hhost : s'.host = s.host) (hdata : s'.hostData = s.hostData)
    (hresets : s'.resets = s.resets) (hcfg : s'.cfg = s.cfg) : externalReset s' = externalReset s := by
  rw [externalReset, externalReset, hhost, hdata, hresets, hcfg]

/-- Settles O15: with a command in progress or none, the step is `externalReset`. -/
theorem externalResetForgetsEverything : Obligations.ExternalResetForgetsEverything := by
  unfold Obligations.ExternalResetForgetsEverything
  intro s rest hh
  refine ⟨_, step_reset hh, fun off _ _ => csrReadAt_externalReset _ off, rfl, byteAt_externalReset _, rfl, rfl, rfl, rfl, ?_⟩
  intro s' hhost hcfg hdata hresets
  rw [step_reset (hhost.trans hh)]
  exact congrArg _ (externalReset_congr rfl hdata hresets hcfg)

end Sys2Proof.Machine
end
